-- ==== Sys2Proof/Word.lean ====
section
/-! DEFINITION. The word types of the DDC (00_scope.md section 5, R6, R70): every value is unsigned, bits are
numbered from 0, the least significant. -/

namespace Sys2Proof

/-- One buffer entry, one segment pattern or one digit-select pattern: 8 bits (R25, R100, R120). -/
abbrev Byte := BitVec 8

/-- A four-bit field: an opcode or a position operand (R71). -/
abbrev Nibble := BitVec 4

/-- CMD_WIDTH of R6: "Every command is one 16-bit word" (R70). -/
abbrev cmdBits : Nat := 16

/-- The command word on the `cmd` port (R37, R70). It has no byte order (R56). -/
abbrev CmdWord := BitVec cmdBits

/-- The frame snapshot SW: the segment wire byte above the digit-select byte (R32). -/
abbrev FrameWord := BitVec 16

end Sys2Proof
end

