-- ==== Sys2Proof/Config.lean ====
section
/-! DEFINITION. The implementation parameters of R6 as plain data, every row of its table a field with the default the
table gives, and the values the spec leaves free. A configuration is fixed for one DDC: `State` carries it and no step
writes it, so a statement about every state holds for every configuration. -/

namespace Sys2Proof

/-- The eight segments of a digit (R100): A top, B upper right, C lower right, D bottom, E lower left, F upper left,
G middle, and DP the decimal point. -/
inductive Segment
  | A | B | C | D | E | F | G | DP
deriving DecidableEq, Repr

/-- SEG_BIT (R6, R100): the bit of a pattern that carries each segment; default A→0 … G→6, DP→7 [the spec: from general
knowledge, not in source]. PRESUMED by the spec (K1): log entry 11. -/
structure SegBit where
  a : Fin 8 := 0
  b : Fin 8 := 1
  c : Fin 8 := 2
  d : Fin 8 := 3
  e : Fin 8 := 4
  f : Fin 8 := 5
  g : Fin 8 := 6
  dp : Fin 8 := 7
deriving DecidableEq, Repr

/-- SEG_BIT(s). -/
def SegBit.of (m : SegBit) : Segment → Fin 8
  | .A => m.a
  | .B => m.b
  | .C => m.c
  | .D => m.d
  | .E => m.e
  | .F => m.f
  | .G => m.g
  | .DP => m.dp

/-- "SEG_BIT must map the eight segments one-to-one onto bits 0..7" (R100). -/
def SegBit.oneToOne (m : SegBit) : Bool :=
  decide [m.a, m.b, m.c, m.d, m.e, m.f, m.g, m.dp].Nodup

/-- GLYPH (R6, R101): the segments lit by codes 0..15 and by the dash; BLANK lights none. The default is the table of
R101 [the spec: from general knowledge, not in source]. PRESUMED by the spec (K3, K4): log entry 11. -/
structure Glyph where
  hex : Vector (List Segment) 16 := #v[
    [.A, .B, .C, .D, .E, .F], [.B, .C], [.A, .B, .D, .E, .G], [.A, .B, .C, .D, .G],
    [.B, .C, .F, .G], [.A, .C, .D, .F, .G], [.A, .C, .D, .E, .F, .G], [.A, .B, .C],
    [.A, .B, .C, .D, .E, .F, .G], [.A, .B, .C, .D, .F, .G], [.A, .B, .C, .E, .F, .G], [.C, .D, .E, .F, .G],
    [.A, .D, .E, .F], [.B, .C, .D, .E, .G], [.A, .D, .E, .F, .G], [.A, .E, .F, .G]]
  dash : List Segment := [.G]
deriving DecidableEq, Repr

/-- "`SEGROM` maps an 8-bit code to a canonical pattern, with DP always 0" (R101): no glyph lights the point. -/
def Glyph.noPoint (g : Glyph) : Bool :=
  g.hex.toList.all (fun l => !l.contains .DP) && !g.dash.contains .DP

/-- The edge of CLK on which the external chain shifts, or of STB on which it latches (R151; K5: "parameter of the
environment model"): log entry 6. -/
inductive Edge
  | rising
  | falling
deriving DecidableEq, Repr

/-- The parameter table of R6, a row a field. Times are in picoseconds. `phaseCycles` and `tClkPs` have no default in
the spec; DESIGN CHOICE: one cycle of 1 µs, the pair of 95_test_vectors.md V5 (log entry 4). -/
structure Config where
  /-- MAX_DIGITS, "a hard maximum of 8". -/
  maxDigits : Nat := 8
  /-- CODE_BLANK, "a BLANK sentinel (value 16)". -/
  codeBlank : Byte := 16
  /-- CODE_DASH (D7). -/
  codeDash : Byte := 17
  /-- SEG_BIT (D5). -/
  segBit : SegBit := {}
  /-- GLYPH (D6). -/
  glyph : Glyph := {}
  /-- T_PULSE_MIN, 1 µs. -/
  tPulseMinPs : Nat := 1000000
  /-- PHASE_CYCLES, the P of the timing rules (D18). -/
  phaseCycles : Nat := 1
  /-- T_CLK, the period of the DDC clock. -/
  tClkPs : Nat := 1000000
  /-- REFRESH_HZ_MIN, 50. -/
  refreshHzMin : Nat := 50
  /-- BRIGHT_MAX, 100 percent (D16). -/
  brightMax : Nat := 100
  /-- CMD_WIDTH, 16 bits (D3). -/
  cmdWidth : Nat := 16
  /-- The chain shifts on this edge of CLK (R151, D24, K5). -/
  shiftEdge : Edge := .rising
  /-- The chain latches on this edge of STB (R151, D24, K5). -/
  latchEdge : Edge := .rising
deriving DecidableEq, Repr

/-- A legal build of the DDC. The literals of R7 and of R22's legal values are fixed (8, 16, 100, 1 µs, 16 bits); the
other rows are free within the spec's own constraints: SEG_BIT one-to-one (R100), SEGROM with DP 0 (R101), the dash a
code of its own (R101, R102), PHASE_CYCLES ≥ 1 and PHASE_CYCLES × T_CLK ≥ T_PULSE_MIN ("A build that breaks this
inequality is not a DDC", R145). DEDUCED (log entry 12): REFRESH_HZ_MIN ≥ 16, so that every adv_delay_us fits the
16 bits R38 gives it. -/
def Config.wf (c : Config) : Bool :=
  c.maxDigits == 8 && c.codeBlank == 16 && c.brightMax == 100 && c.cmdWidth == cmdBits &&
  c.tPulseMinPs == 1000000 && c.segBit.oneToOne && c.glyph.noPoint &&
  decide (15 < c.codeDash.toNat) && c.codeDash != c.codeBlank &&
  decide (1 ≤ c.phaseCycles) && decide (c.tPulseMinPs ≤ c.phaseCycles * c.tClkPs) &&
  decide (16 ≤ c.refreshHzMin)

/-- The chain's shift stages at power-up: "unspecified at power-up" (R150), "any value" (U2). Free: no body, so nothing
can be proved of it (log entry 5). -/
opaque Config.chainPowerUpSR : BitVec 16

/-- The near register's latched outputs at power-up (R150, U2). Free (log entry 5). -/
opaque Config.chainPowerUpQN : Byte

/-- The far register's latched outputs at power-up (R150, U2). Free (log entry 5). -/
opaque Config.chainPowerUpQF : Byte

/-- The chain's shift stages after a reset in mid-frame: "any value for SR" (U4; R341: "may be left holding a partial
frame"). Free, one value a draw: no body, so nothing can be proved of it (log entry 13). -/
opaque Config.chainStagesAfterReset : Nat → BitVec 16

end Sys2Proof
end

