-- ==== Sys2Proof/Syntax.lean ====
section
/-! DEFINITION. The commands of the DDC: one constructor per row of spec/opcode_table.json, with the operand fields of
R71 and R72. Ignored bits are not part of an instruction: "the command then behaves as if they were 0" (R74). -/

namespace Sys2Proof

/-- A command, decoded (R73). -/
inductive Instr
  /-- NOP, format Z (R191). -/
  | nop
  /-- INIT, format I (R192): POLB = cmd[8], CNT = cmd[7:0]. -/
  | init (polb : Bool) (cnt : Byte)
  /-- SET_DIGIT, format P (R194): POS = cmd[11:8], VAL = cmd[7:0]. -/
  | setDigit (pos : Nibble) (val : Byte)
  /-- SET_DP, format PB (R196): POS = cmd[11:8], ON = cmd[0]. -/
  | setDp (pos : Nibble) (on : Bool)
  /-- CLEAR, format Z (R198). -/
  | clear
  /-- SET_BRIGHTNESS, format V (R200): PCT = cmd[7:0]. -/
  | setBrightness (pct : Byte)
  /-- TICK, format Z (R171). -/
  | tick
  /-- LOCK, format B (R202): L = cmd[0]. -/
  | lock (l : Bool)
  /-- RESERVED, format Z (R204): the opcode, 0x8 to 0xF, is kept. -/
  | reserved (op : Nibble)
deriving DecidableEq, Repr

/-- The mnemonic of the row of opcode_table.json. -/
def Instr.mnemonic : Instr → String
  | .nop => "NOP"
  | .init _ _ => "INIT"
  | .setDigit _ _ => "SET_DIGIT"
  | .setDp _ _ => "SET_DP"
  | .clear => "CLEAR"
  | .setBrightness _ => "SET_BRIGHTNESS"
  | .tick => "TICK"
  | .lock _ => "LOCK"
  | .reserved _ => "RESERVED"

/-- The opcode, cmd[15:12] (R71, R73). -/
def Instr.opcode : Instr → Nibble
  | .nop => 0x0
  | .init _ _ => 0x1
  | .setDigit _ _ => 0x2
  | .setDp _ _ => 0x3
  | .clear => 0x4
  | .setBrightness _ => 0x5
  | .tick => 0x6
  | .lock _ => 0x7
  | .reserved op => op

end Sys2Proof
end

