-- ==== Sys2Proof/WellFormed.lean ====
section
/-! DEFINITION. Which terms of `Instr` are commands. Every operand field is as wide as its type and every value of a
field is legal (R72: "Values 8..15 are legal in the field"), so one check is left: a reserved opcode is one of 0x8 to
0xF (R73, R204). -/

namespace Sys2Proof

/-- A reserved opcode has its top bit set: match 0x8000, mask 0x8000 (R73). -/
def reservedOpcode (op : Nibble) : Bool := decide (8 ≤ op.toNat)

/-- The instruction is one that a command word can carry. -/
def Instr.wf : Instr → Bool
  | .reserved op => reservedOpcode op
  | .nop => true
  | .init _ _ => true
  | .setDigit _ _ => true
  | .setDp _ _ => true
  | .clear => true
  | .setBrightness _ => true
  | .tick => true
  | .lock _ => true

end Sys2Proof
end

