-- ==== Sys2Proof/Decode.lean ====
section
/-! DEFINITION. Decoding a command word (R70-R74), total: "Every 16-bit word is a legal command: the decoder is total"
(R74), so no word is refused; then the encoder, written from the same tables; then the decoder table of R73. -/

namespace Sys2Proof

/-- cmd[15:12], the opcode (R71). -/
def fieldOp (w : CmdWord) : Nibble := w.extractLsb' 12 4

/-- POS = cmd[11:8] (R72). -/
def fieldPos (w : CmdWord) : Nibble := w.extractLsb' 8 4

/-- VAL, CNT or PCT = cmd[7:0] (R72). -/
def fieldByte (w : CmdWord) : Byte := w.extractLsb' 0 8

/-- POLB = cmd[8] (R72). -/
def fieldPolb (w : CmdWord) : Bool := w.getLsbD 8

/-- ON or L = cmd[0] (R72). -/
def fieldBit0 (w : CmdWord) : Bool := w.getLsbD 0

/-- The command a word stands for, chosen by its opcode (R73). -/
def decode (w : CmdWord) : Instr :=
  match (fieldOp w).toNat with
  | 0x0 => .nop
  | 0x1 => .init (fieldPolb w) (fieldByte w)
  | 0x2 => .setDigit (fieldPos w) (fieldByte w)
  | 0x3 => .setDp (fieldPos w) (fieldBit0 w)
  | 0x4 => .clear
  | 0x5 => .setBrightness (fieldByte w)
  | 0x6 => .tick
  | 0x7 => .lock (fieldBit0 w)
  | _ => .reserved (fieldOp w)

/-- The word of a command, its ignored bits 0 as "an assembler writes them" (R71). Each arm is the format's bit string,
most significant first. -/
def encode : Instr → CmdWord
  | .nop => 0x0#4 ++ 0#12
  | .init polb cnt => 0x1#4 ++ 0#3 ++ BitVec.ofBool polb ++ cnt
  | .setDigit pos val => 0x2#4 ++ pos ++ val
  | .setDp pos on => 0x3#4 ++ pos ++ 0#7 ++ BitVec.ofBool on
  | .clear => 0x4#4 ++ 0#12
  | .setBrightness pct => 0x5#4 ++ 0#4 ++ pct
  | .tick => 0x6#4 ++ 0#12
  | .lock l => 0x7#4 ++ 0#11 ++ BitVec.ofBool l
  | .reserved op => op ++ 0#12

/-- The word 0x6000 that a tick-port request is executed as (R70, R224). -/
def tickWord : CmdWord := 0x6000

/-- The bits of a word that its format uses; the others are the `-` bits of R71, which the DDC ignores (R74). -/
def usedBits (w : CmdWord) : CmdWord :=
  match (fieldOp w).toNat with
  | 0x1 => 0xF1FF
  | 0x2 => 0xFFFF
  | 0x3 => 0xFF01
  | 0x5 => 0xF0FF
  | 0x7 => 0xF001
  | _ => 0xF000

/-- One row of the decoder table of R73. -/
structure OpcodeRow where
  mnemonic : String
  pattern : CmdWord
  mask : CmdWord
deriving DecidableEq, Repr

/-- A word belongs to a row when it agrees with the pattern under the mask. -/
def OpcodeRow.accepts (r : OpcodeRow) (w : CmdWord) : Bool := w &&& r.mask == r.pattern

/-- "match/mask values for a decoder" (R73). -/
def opcodeRows : List OpcodeRow :=
  [⟨"NOP", 0x0000, 0xF000⟩, ⟨"INIT", 0x1000, 0xF000⟩, ⟨"SET_DIGIT", 0x2000, 0xF000⟩,
   ⟨"SET_DP", 0x3000, 0xF000⟩, ⟨"CLEAR", 0x4000, 0xF000⟩, ⟨"SET_BRIGHTNESS", 0x5000, 0xF000⟩,
   ⟨"TICK", 0x6000, 0xF000⟩, ⟨"LOCK", 0x7000, 0xF000⟩, ⟨"RESERVED", 0x8000, 0x8000⟩]

/-- What the decoder reads from an instruction of at most 16 bits, numbered as opcode_table.json numbers them. Bits
above `nbits` are 0. No command is longer than one word (R70). -/
def decodeTableWord (nbits w : Nat) : Option Instr :=
  if nbits ≤ cmdBits ∧ w < 2 ^ cmdBits then some (decode (BitVec.ofNat cmdBits (w % 2 ^ nbits))) else none

end Sys2Proof
end

