-- ==== Sys2Proof/Machine/State.lean ====
section
/-! DEFINITION. The state of the machine: every field of R22, the external chain of R150 (environment), the parameters
of R6 and the input samples of the coming cycles; the reasons to stop, of which the DDC has none; and the state after
reset. -/

namespace Sys2Proof.Machine

/-- The two requesters of the arbiter (R220): H, the command port, and T, the tick port. -/
inductive Port
  | tick
  | host
deriving DecidableEq, Repr

/-- The input ports of one cycle (R37). The defaults are the ports of a cycle in which no agent acts. -/
structure Inputs where
  rst : Bool := false
  cmdValid : Bool := false
  cmd : CmdWord := 0
  tickReq : Bool := false
deriving DecidableEq, Repr

/-- The three output lines (R35). -/
structure Lines where
  data : Bool
  clk : Bool
  stb : Bool
deriving DecidableEq, Repr

/-- The external chain (R150), environment: shift stages SR (stage 0 is fed by DATA), and the latched outputs of the
near register QN and the far register QF. -/
structure Chain where
  sr : BitVec 16
  qn : Byte
  qf : Byte
deriving DecidableEq, Repr

/-- The machine's state. From `pol` to `stb` it is R22's table, "the list below and nothing else". `cfg`, `inputs` and
`draws` are the model's own (log entries 1, 4, 13), `chain` is the environment's reference model (log entry 5). -/
structure State where
  /-- The parameters of R6; no step writes them. -/
  cfg : Config
  /-- POL: true = active-low, common anode (R23). -/
  pol : Bool
  /-- NDIG, the configured digit count (R24). -/
  ndig : BitVec 4
  /-- BUF[0..7] (R25). -/
  buf : Vector Byte 8
  /-- DPM, the decimal-point mask (R26). -/
  dpm : Byte
  /-- IDX, the refresh index (R27). -/
  idx : Fin 8
  /-- BRIGHT, in percent (R28). -/
  bright : BitVec 7
  /-- LOCK, the tick-port hold (R29). -/
  lock : Bool
  /-- RR, the port that wins the next contest (R30). -/
  rr : Port
  /-- BUSY: a frame is in flight (R31). -/
  busy : Bool
  /-- SW, the frame snapshot (R32). -/
  sw : FrameWord
  /-- PH, the index of the next line event (R33). -/
  ph : Fin 50
  /-- TMR, the cycles remaining in the current phase (R34). -/
  tmr : Nat
  /-- The DATA line (R35). -/
  data : Bool
  /-- The CLK line (R35). -/
  clk : Bool
  /-- The STB line (R35). -/
  stb : Bool
  /-- The external shift-register chain (R150). -/
  chain : Chain
  /-- The input ports of the coming cycles, oldest first (R37, R224). -/
  inputs : List Inputs
  /-- How many free values have been drawn, one a reset in mid-frame (U4). The model's own (log entry 13). -/
  draws : Nat
deriving DecidableEq, Repr

/-- No constructor: "The DDC raises no exception, no trap, no fault and no error status" (R300); "A model has no fault
state for the DDC" (R302). -/
inductive Fault
deriving DecidableEq, Repr

/-- The reasons not to give an instruction a meaning. -/
inductive Refusal
  /-- Raised only by an arm of `exec` for an instruction the model gives no meaning; no arm does. Safe. -/
  | notModelled (mnemonic : String)
deriving DecidableEq, Repr

/-- The machine right after reset: R22's reset values with the default configuration, the chain unspecified (R150, U2)
and nothing requested. -/
def State.reset : State where
  cfg := {}
  pol := false
  ndig := 0
  buf := Vector.replicate 8 16
  dpm := 0
  idx := 0
  bright := 100
  lock := false
  rr := .tick
  busy := false
  sw := 0
  ph := 0
  tmr := 0
  data := false
  clk := false
  stb := false
  chain := ⟨Config.chainPowerUpSR, Config.chainPowerUpQN, Config.chainPowerUpQF⟩
  inputs := []
  draws := 0

end Sys2Proof.Machine
end

