-- ==== Sys2Proof/Machine/Operands.lean ====
section
/-! DEFINITION. The operand forms of R72: what each field of a command word is turned into before it is used. "Every
operand field is an unsigned binary number, zero-extended to the width of its use." -/

namespace Sys2Proof.Machine

/-- CNT: "NDIG <- min(CNT, 8)" (R72, R192). -/
def saturateCount (c : Config) (cnt : Byte) : BitVec 4 :=
  BitVec.ofNat 4 (min cnt.toNat c.maxDigits)

/-- PCT: "BRIGHT <- min(PCT, 100)" (R72, R200). -/
def saturatePercent (c : Config) (pct : Byte) : BitVec 7 :=
  BitVec.ofNat 7 (min pct.toNat c.brightMax)

/-- POS: "A position operand is valid when it is less than NDIG", compared whole, never taken modulo anything (R51). -/
def validPosition (s : State) (pos : Nibble) : Bool :=
  decide (pos.toNat < s.ndig.toNat)

/-- One bit of a mask set to a value, the other seven kept (R52, R62). -/
def putBit (mask : Byte) (p : Nat) (on : Bool) : Byte :=
  if on then mask ||| (1#8 <<< p) else mask &&& ~~~(1#8 <<< p)

/-- The pattern with only bit k set, `1 << k`. -/
def bitAt (k : Fin 8) : Byte := 1#8 <<< k.val

end Sys2Proof.Machine
end

