-- ==== Sys2Proof/Machine/Encoders.lean ====
section
/-! DEFINITION. The two combinational encoders TICK uses: the segment encoder with its polarity stage
(40_segment_encoder.md) and the digit-select ROM (41_digit_select.md). Both are "pure lookup" and hold no state. -/

namespace Sys2Proof.Machine

/-- The pattern in which exactly the given segments' bits are 1 (R100). -/
def patternOf (m : SegBit) (lit : List Segment) : Byte :=
  lit.foldr (fun seg acc => bitAt (m.of seg) ||| acc) 0

/-- The segments a code lights (R101, R102): "Every code that is not 0..15 and not 17 encodes as BLANK". -/
def glyphOf (c : Config) (code : Byte) : List Segment :=
  if h : code.toNat < 16 then c.glyph.hex[code.toNat]
  else if code = c.codeDash then c.glyph.dash
  else []

/-- SEGROM, code to canonical pattern (R101). -/
def segRom (c : Config) (code : Byte) : Byte := patternOf c.segBit (glyphOf c code)

/-- CANON: the decimal point is OR-ed into the canonical pattern, for every code (R103). -/
def canon (c : Config) (code : Byte) (dp : Bool) : Byte :=
  segRom c code ||| (if dp then bitAt (c.segBit.of .DP) else 0)

/-- SEGWIRE: the polarity stage, after the decimal-point OR and once (R104). -/
def segWire (c : Config) (code : Byte) (dp pol : Bool) : Byte :=
  if pol then ~~~(canon c code dp) else canon c code dp

/-- SELROM: one-hot active-low for a valid position, all ones otherwise (R120, R121); the same for both polarities
(R123). -/
def selRom (p : Byte) (n : BitVec 4) : Byte :=
  if p.toNat < n.toNat then 0xFF#8 &&& ~~~(1#8 <<< p.toNat) else 0xFF#8

end Sys2Proof.Machine
end

