-- ==== Sys2Proof/Machine/Flags.lean ====
section
/-! DEFINITION. The DDC "has no condition codes or flags in the processor sense" and "No command sets a flag as a side
effect" (R40). What it reports is the status read off the state; the two ready outputs depend on the cycle's inputs and
stand in Arbiter.lean. -/

namespace Sys2Proof.Machine

/-- ADV of R308: the largest inter-tick period, in microseconds, that keeps the full-cycle refresh rate at
REFRESH_HZ_MIN; 0 when unconfigured. -/
def advDelay (c : Config) (n : BitVec 4) : BitVec 16 :=
  if n = 0 then 0 else BitVec.ofNat 16 (1000000 / (c.refreshHzMin * n.toNat))

/-- The registered lines as the outputs show them (R35, R38). -/
def State.lines (s : State) : Lines := ⟨s.data, s.clk, s.stb⟩

end Sys2Proof.Machine
end

