-- ==== Sys2Proof/Machine/Chain.lean ====
section
/-! DEFINITION. The reference model of the external two-register chain (R150, R151) and of the display wired to it
(R153). Environment: no part of the DDC reads it. -/

namespace Sys2Proof.Machine

/-- A line goes through the given edge. -/
def crosses : Edge → Bool → Bool → Bool
  | .rising, before, after => !before && after
  | .falling, before, after => before && !after

/-- R151: on the shift edge of CLK, "`SR <- (SR[14:0] : DATA)`"; on the latch edge of STB, "`QN <- SR[7:0]` and
`QF <- SR[15:8]`"; the latched outputs change at no other time. Both read the stages as they stood, and a shift takes
DATA at its level after the change. No frame's event moves DATA with CLK, or CLK with STB (R146); a reset can, and what
the model then does is its own choice: DESIGN CHOICE, log entries 13 (a reset in mid-frame) and 20 (every other state). -/
def Chain.sample (cfg : Config) (c : Chain) (before after : Lines) : Chain where
  sr := if crosses cfg.shiftEdge before.clk after.clk then c.sr.extractLsb' 0 15 ++ BitVec.ofBool after.data else c.sr
  qn := if crosses cfg.latchEdge before.stb after.stb then c.sr.extractLsb' 0 8 else c.qn
  qf := if crosses cfg.latchEdge before.stb after.stb then c.sr.extractLsb' 8 8 else c.qf

/-- Position p is enabled when QN[p] = 0 (R153). -/
def Chain.enabled (c : Chain) (p : Fin 8) : Bool := !c.qn.getLsbD p.val

/-- Segment `seg` of digit p is lit on a display of the given wiring (R153): `wiring` is true for common anode. R153
states it with POL; the wiring is an argument because the DDC cannot detect a mismatch (R345; log entry 16). -/
def Chain.lit (cfg : Config) (c : Chain) (wiring : Bool) (p : Fin 8) (seg : Segment) : Bool :=
  c.enabled p && (c.qf.getLsbD (cfg.segBit.of seg).val != wiring)

end Sys2Proof.Machine
end

