-- ==== Sys2Proof/Machine/Ops.lean ====
section
/-! DEFINITION. The named operations on the state that the commands, the frame engine and the arbiter are made of. They
are the only places a field of the state is written. There is no exception entry and no return from one: "no trap
vector, no saved state, no trap-return command" (R300). -/

namespace Sys2Proof.Machine

/-- MemWrite(p, 1, v): BUF[p] <- v, one 8-bit entry (R52). -/
def State.writeDigit (s : State) (p : Nibble) (v : Byte) : State :=
  { s with buf := s.buf.setIfInBounds p.toNat v }

/-- DPM[p] <- on, "only bit POS of DPM" (R52). -/
def State.writePoint (s : State) (p : Nibble) (on : Bool) : State :=
  { s with dpm := putBit s.dpm p.toNat on }

/-- All eight entries BLANK and the whole mask 0, at once (R52, R192, R198). -/
def State.blankAll (s : State) : State :=
  { s with buf := Vector.replicate 8 s.cfg.codeBlank, dpm := 0 }

/-- POL and NDIG, written together by INIT only (R23, R24). -/
def State.configure (s : State) (polb : Bool) (n : BitVec 4) : State :=
  { s with pol := polb, ndig := n }

/-- IDX <- 0 (R27, R192). -/
def State.rewind (s : State) : State := { s with idx := 0 }

/-- BRIGHT <- v (R28). -/
def State.setBright (s : State) (v : BitVec 7) : State := { s with bright := v }

/-- LOCK <- l (R29). -/
def State.setLock (s : State) (l : Bool) : State := { s with lock := l }

/-- RR <- p (R30). -/
def State.setTurn (s : State) (p : Port) : State := { s with rr := p }

/-- MemRead(IDX, 1): the code of the position to be shown (R171). -/
def State.shownCode (s : State) : Byte := s.buf[s.idx.val]

/-- DPM[IDX] (R171). -/
def State.shownPoint (s : State) : Bool := s.dpm.getLsbD s.idx.val

/-- The snapshot of R171: "SEGWIRE(code, dp, POL) : SELROM(IDX, NDIG)". -/
def State.snapshot (s : State) : FrameWord :=
  segWire s.cfg s.shownCode s.shownPoint s.pol ++ selRom (BitVec.ofNat 8 s.idx.val) s.ndig

/-- A granted TICK loads the snapshot and starts the frame: "BUSY <- 1 ; PH <- 0 ; TMR <- 0" (R171). -/
def State.startFrame (s : State) (w : FrameWord) : State :=
  { s with sw := w, busy := true, ph := 0, tmr := 0 }

/-- The three lines take new levels (R35). -/
def State.setLines (s : State) (l : Lines) : State :=
  { s with data := l.data, clk := l.clk, stb := l.stb }

/-- "PH <- PH + 1 ; TMR <- PHASE_CYCLES - 1" (R143). -/
def State.nextPhase (s : State) : State :=
  { s with ph := s.ph + 1, tmr := s.cfg.phaseCycles - 1 }

/-- "TMR <- TMR - 1" (R143). -/
def State.countDown (s : State) : State := { s with tmr := s.tmr - 1 }

/-- "(IDX + 1) mod NDIG" (R174). R174 takes NDIG ≥ 1; with NDIG = 0 no frame completes (R36e; log entry 10). -/
def nextIndex (i : Fin 8) (n : BitVec 4) : Fin 8 := Fin.ofNat 8 ((i.val + 1) % n.toNat)

/-- "BUSY <- 0 ; PH <- 0 ; TMR <- 0" and IDX advances, in the same cycle (R143, R174). -/
def State.completeFrame (s : State) : State :=
  { s with busy := false, ph := 0, tmr := 0, idx := nextIndex s.idx s.ndig }

/-- The input sample of this cycle; after the last one no agent requests anything (log entry 2). -/
def State.now (s : State) : Inputs := s.inputs.headD {}

/-- The next cycle's sample comes up. -/
def State.nextCycle (s : State) : State := { s with inputs := s.inputs.tail }

/-- "every field takes the reset value listed in 10_state.md rule R22" (R340): the DDC's fields only; the chain is not
reset (R150), and the parameters and the agents' inputs are not the DDC's to change (R227). -/
def State.resetCore (s : State) : State :=
  { State.reset with
    cfg := s.cfg, buf := Vector.replicate 8 s.cfg.codeBlank, chain := s.chain, inputs := s.inputs, draws := s.draws }

/-- The chain's shift stages take a value nothing constrains, drawn afresh: "any value for SR; QN and QF keep the last
latched frame" (U4, R341; log entry 13). -/
def State.loseStages (s : State) : State :=
  { s with chain := { s.chain with sr := Config.chainStagesAfterReset s.draws }, draws := s.draws + 1 }

/-- The chain sees the lines go from one level to the next (R151). -/
def State.sampleChain (s : State) (before : Lines) : State :=
  { s with chain := s.chain.sample s.cfg before s.lines }

end Sys2Proof.Machine
end

