-- ==== Sys2Proof/Machine/Arbiter.lean ====
section
/-! DEFINITION. The buffer arbiter (45_arbiter_and_cycle.md R220-R223): who is eligible, who is granted, whose turn the
next contest is; and the outputs of a cycle (R38, R224). Everything is computed from the state at the start of the
cycle and that cycle's input sample. -/

namespace Sys2Proof.Machine

/-- The commands that wait for the frame in flight: "op ∈ {0x1 INIT, 0x6 TICK}" (R221). -/
def waitsForFrame (w : CmdWord) : Bool := fieldOp w == 0x1 || fieldOp w == 0x6

/-- eH of R221. -/
def eligibleHost (s : State) : Bool :=
  s.now.cmdValid && (!waitsForFrame s.now.cmd || !s.busy)

/-- eT of R221. -/
def eligibleTick (s : State) : Bool := s.now.tickReq && !s.busy && !s.lock

/-- A contest: both ports eligible in one cycle (R223). -/
def contest (s : State) : Bool := eligibleHost s && eligibleTick s

/-- GRANT of R222; "While rst = 1, g = none". -/
def grant (s : State) : Option Port :=
  if s.now.rst then none
  else if contest s then some s.rr
  else if eligibleHost s then some .host
  else if eligibleTick s then some .tick
  else none

/-- The other requester. -/
def Port.other : Port → Port
  | .tick => .host
  | .host => .tick

/-- RR after the cycle: the other port after a contest, unchanged otherwise (R223). -/
def turnAfter (s : State) : Port := if contest s then s.rr.other else s.rr

/-- The word a grant executes: the host's, or 0x6000 for the tick port (R70, R224). -/
def grantedWord (s : State) : Port → CmdWord
  | .host => s.now.cmd
  | .tick => tickWord

/-- The output ports of one cycle (R38). -/
structure Outputs where
  lines : Lines
  cmdReady : Bool
  tickReady : Bool
  busy : Bool
  lock : Bool
  bright : BitVec 7
  advDelayUs : BitVec 16
deriving DecidableEq, Repr

/-- The outputs of the cycle about to be stepped (R224): the ready outputs are combinational, the others show the state
at its start. -/
def outputs (s : State) : Outputs where
  lines := s.lines
  cmdReady := grant s == some .host
  tickReady := grant s == some .tick
  busy := s.busy
  lock := s.lock
  bright := s.bright
  advDelayUs := advDelay s.cfg s.ndig

end Sys2Proof.Machine
end

