-- ==== Sys2Proof/Machine/Commands.lean ====
section
/-! DEFINITION. The buffer and configuration commands (44_buffer_commands.md), a meaning each. Each is EXECUTE of R224
in the command's grant cycle; eligibility and grant are the arbiter's (Arbiter.lean; log entry 8). "an invalid operand is
saturated or ignored, never rejected" (R190). -/

namespace Sys2Proof.Machine

/-- NOP: "NOP in any state leaves the state unchanged" (R191). -/
def execNop (s : State) : Host.Outcome State Fault Refusal := .next s

/-- INIT (R192): POL, NDIG, BUF, DPM and IDX; BRIGHT, LOCK, RR, SW and the lines are unchanged. -/
def execInit (polb : Bool) (cnt : Byte) (s : State) : Host.Outcome State Fault Refusal :=
  .next ((s.configure polb (saturateCount s.cfg cnt)).blankAll.rewind)

/-- SET_DIGIT (R194): "if POS < NDIG then BUF[POS] <- VAL else nothing". -/
def execSetDigit (pos : Nibble) (val : Byte) (s : State) : Host.Outcome State Fault Refusal :=
  .next (if validPosition s pos then s.writeDigit pos val else s)

/-- SET_DP (R196): "if POS < NDIG then DPM[POS] <- ON", the other bits unchanged, "else nothing". -/
def execSetDp (pos : Nibble) (on : Bool) (s : State) : Host.Outcome State Fault Refusal :=
  .next (if validPosition s pos then s.writePoint pos on else s)

/-- CLEAR (R198): every entry BLANK and DPM 0; POL, NDIG, IDX, BRIGHT, LOCK and the frame in flight unchanged. -/
def execClear (s : State) : Host.Outcome State Fault Refusal := .next s.blankAll

/-- SET_BRIGHTNESS (R200): BRIGHT <- min(PCT, 100). -/
def execSetBrightness (pct : Byte) (s : State) : Host.Outcome State Fault Refusal :=
  .next (s.setBright (saturatePercent s.cfg pct))

/-- LOCK (R202): LOCK <- L; no nesting count. -/
def execLock (l : Bool) (s : State) : Host.Outcome State Fault Refusal := .next (s.setLock l)

/-- RESERVED: "nothing, exactly as NOP" (R204). -/
def execReserved (_op : Nibble) (s : State) : Host.Outcome State Fault Refusal := .next s

end Sys2Proof.Machine
end

