-- ==== Sys2Proof/Machine/Tick.lean ====
section
/-! DEFINITION. TICK, the refresh tick (43_refresh_tick.md), in its grant cycle; the frame it starts is performed by the
frame engine in the cycles after (FrameEngine.lean). -/

namespace Sys2Proof.Machine

/-- TICK (R171): with NDIG = 0 nothing (R173); otherwise SW is loaded from BUF[IDX], DPM[IDX], POL, NDIG and IDX as they
stand, and the frame starts. -/
def execTick (s : State) : Host.Outcome State Fault Refusal :=
  .next (if s.ndig = 0 then s else s.startFrame s.snapshot)

end Sys2Proof.Machine
end

