-- ==== Sys2Proof/Machine/Dispatch.lean ====
section
/-! DEFINITION. EXECUTE of R224: one arm per command. -/

namespace Sys2Proof.Machine

def exec (i : Instr) (s : State) : Host.Outcome State Fault Refusal :=
  match i with
  | .nop => Sys2Proof.Machine.execNop s
  | .init polb cnt => Sys2Proof.Machine.execInit polb cnt s
  | .setDigit pos val => Sys2Proof.Machine.execSetDigit pos val s
  | .setDp pos on => Sys2Proof.Machine.execSetDp pos on s
  | .clear => Sys2Proof.Machine.execClear s
  | .setBrightness pct => Sys2Proof.Machine.execSetBrightness pct s
  | .tick => Sys2Proof.Machine.execTick s
  | .lock l => Sys2Proof.Machine.execLock l s
  | .reserved op => Sys2Proof.Machine.execReserved op s

end Sys2Proof.Machine
end

