-- ==== Sys2Proof/Machine/FrameEngine.lean ====
section
/-! DEFINITION. The serial driver (42_serial_driver.md): the 50 line events of a frame (R142) and the frame engine's
part of a cycle (R143). -/

namespace Sys2Proof.Machine

/-- What one event writes: "Each event writes one line and leaves the other two unchanged" (R142). -/
inductive LineEvent
  | data (v : Bool)
  | clk (v : Bool)
  | stb (v : Bool)
deriving DecidableEq, Repr

/-- "Bit j is SW[15-j]" (R141). -/
def shiftBit (sw : FrameWord) (j : Nat) : Bool := sw.getLsbD (15 - j)

/-- Event k of R142's table: 48 and 49 are the strobe; before them, k = 3j, 3j+1, 3j+2 are the data, the clock high and
the clock low of bit j. -/
def lineEvent (sw : FrameWord) (k : Fin 50) : LineEvent :=
  if k.val = 48 then .stb true
  else if k.val = 49 then .stb false
  else if k.val % 3 = 0 then .data (shiftBit sw (k.val / 3))
  else if k.val % 3 = 1 then .clk true
  else .clk false

/-- The lines after an event. -/
def LineEvent.drive : LineEvent → Lines → Lines
  | .data v, l => { l with data := v }
  | .clk v, l => { l with clk := v }
  | .stb v, l => { l with stb := v }

/-- "perform event PH" (R143). -/
def performEvent (s : State) : State := s.setLines ((lineEvent s.sw s.ph).drive s.lines)

/-- The frame-engine step of R143. "In a cycle in which BUSY = 0 at its start, the frame engine does nothing." -/
def frameEngine (s : State) : State :=
  if s.busy then
    if s.tmr = 0 then
      if s.ph = 49 then (performEvent s).completeFrame else (performEvent s).nextPhase
    else s.countDown
  else s

/-- The cycles from the start of this one to the end of the frame in flight, this one included (R144): after a TICK
granted in cycle t it is 1 + 49·P at the start of cycle t + 1; 0 when idle. -/
def frameCyclesLeft (s : State) : Nat :=
  if s.busy then s.tmr + (49 - s.ph.val) * s.cfg.phaseCycles + 1 else 0

end Sys2Proof.Machine
end

