-- ==== Sys2Proof/Machine/Cycle.lean ====
section
/-! DEFINITION. One cycle of the DDC (R224): reset, or the frame engine, the arbiter and one granted command; then the
external chain samples the lines' change (R151). -/

namespace Sys2Proof.Machine

/-- A cycle with rst = 1: "no grant, no frame event, cmd_ready = 0 and tick_ready = 0" (R340). The chain sees the lines
go to 0; when a frame was in flight, its stages are left with any value (R341, U4; log entry 13). -/
def resetCycle (s : State) : State :=
  let t := s.nextCycle.resetCore.sampleChain s.lines
  if s.busy then t.loseStages else t

/-- The part of a cycle with rst = 0 that no command does: the frame engine and the arbiter's RR (R224). R224 reads
every field from the state at the start of the cycle; running the engine first gives the same, since the engine and the
granted command write disjoint fields and neither reads what the other writes (R224, R304; DEDUCED, log entry 7). -/
def engineCycle (s : State) : State := (frameEngine s.nextCycle).setTurn (turnAfter s)

/-- EXECUTE of the granted request, if any. -/
def executeGrant (s : State) (g : Option Port) (t : State) : Host.Outcome State Fault Refusal :=
  match g with
  | none => .next t
  | some p => exec (decode (grantedWord s p)) t

/-- The step function of R224. -/
def cycle (s : State) : Host.Outcome State Fault Refusal :=
  if s.now.rst then .next (resetCycle s)
  else
    match executeGrant s (grant s) (engineCycle s) with
    | .next t => .next (t.sampleChain s.lines)
    | .fault r => .fault r
    | .refused r => .refused r

/-- The state with one word presented on the command port in the next cycle, alone, and no frame in flight that would
hold it: INIT and TICK wait for the frame (R221), so for them the frame is taken away. The samples after the next
cycle's are kept. -/
def presentWord (s : State) (w : CmdWord) : State :=
  let s' := { s with inputs := { cmdValid := true, cmd := w } :: s.inputs.tail }
  if waitsForFrame w && s.busy then { s' with busy := false, ph := 0, tmr := 0 } else s'

end Sys2Proof.Machine
end

