-- ==== Sys2Proof/Machine/Step.lean ====
section
/-! DEFINITION. The machine's step and the host's way to make one instruction the next one to run. -/

namespace Sys2Proof.Machine

/-- One step is one cycle of the DDC clock (R224). -/
def step (s : State) : Host.Outcome State Fault Refusal := cycle s

/-- The DDC fetches nothing (R21, R63): its next instruction is the word the host presents in the next cycle (R37). The
word of `nbits` bits is presented there, alone (log entry 3). -/
def State.withFetchWord (s : State) (nbits w : Nat) : State :=
  presentWord s (BitVec.ofNat cmdBits (w % 2 ^ nbits))

end Sys2Proof.Machine
end

