-- ==== Sys2Proof/Machine/Assembler.lean ====
section
/-! DEFINITION. The command assembly syntax (R75) and its pseudo-instructions (R76), from text to command words. "An
operand out of its field's range is an assembly error; it is never truncated." Not part of the DDC. -/

namespace Sys2Proof.Machine

/-- A line of assembly, its operands as written (R75, R76). -/
inductive AsmLine
  /-- NOP -/
  | nop
  /-- INIT CC, n or INIT CA, n -/
  | init (commonAnode : Bool) (n : Nat)
  /-- SETD p, v -/
  | setd (p v : Nat)
  /-- SETDP p, on -/
  | setdp (p on : Nat)
  /-- CLEAR -/
  | clear
  /-- BRIGHT pct -/
  | bright (pct : Nat)
  /-- TICK -/
  | tick
  /-- LOCK l -/
  | lock (l : Nat)
  /-- .word w -/
  | word (w : Nat)
  /-- UNLOCK (pseudo) -/
  | unlock
  /-- DPON p (pseudo) -/
  | dpon (p : Nat)
  /-- DPOFF p (pseudo) -/
  | dpoff (p : Nat)
  /-- BLANKD p (pseudo) -/
  | blankd (p : Nat)
  /-- DASHD p (pseudo) -/
  | dashd (p : Nat)
  /-- HEXD p, h (pseudo) -/
  | hexd (p h : Nat)
deriving DecidableEq, Repr

/-- A word from its opcode and operand part, when every operand is in range. -/
def asmWord (inRange : Bool) (w : Nat) : Option CmdWord :=
  if inRange then some (BitVec.ofNat cmdBits w) else none

/-- SETD p, v: 0x2000 | (p << 8) | v. -/
def setdWord (p v : Nat) : Option CmdWord :=
  asmWord (decide (p ≤ 15 ∧ v ≤ 255)) (0x2000 ||| (p <<< 8) ||| v)

/-- SETDP p, on: 0x3000 | (p << 8) | on. -/
def setdpWord (p on : Nat) : Option CmdWord :=
  asmWord (decide (p ≤ 15 ∧ on ≤ 1)) (0x3000 ||| (p <<< 8) ||| on)

/-- LOCK l: 0x7000 | l. -/
def lockWord (l : Nat) : Option CmdWord := asmWord (decide (l ≤ 1)) (0x7000 ||| l)

/-- The word of a line, by the column "word" of R75; none is an assembly error. A pseudo-instruction is its expansion
(R76). -/
def assemble : AsmLine → Option CmdWord
  | .nop => asmWord true 0x0000
  | .init ca n => asmWord (decide (n ≤ 255)) (0x1000 ||| (ca.toNat <<< 8) ||| n)
  | .setd p v => setdWord p v
  | .setdp p on => setdpWord p on
  | .clear => asmWord true 0x4000
  | .bright pct => asmWord (decide (pct ≤ 255)) (0x5000 ||| pct)
  | .tick => asmWord true 0x6000
  | .lock l => lockWord l
  | .word w => asmWord (decide (w ≤ 0xFFFF)) w
  | .unlock => lockWord 0
  | .dpon p => setdpWord p 1
  | .dpoff p => setdpWord p 0
  | .blankd p => setdWord p 16
  | .dashd p => setdWord p 17
  | .hexd p h => if h ≤ 15 then setdWord p h else none

/-- The text cut at a separator. -/
def cutAt (sep : Char) : List Char → List (List Char)
  | [] => [[]]
  | c :: cs =>
    match cutAt sep cs with
    | [] => [[c]]
    | t :: ts => if c = sep then [] :: t :: ts else (c :: t) :: ts

/-- The text without blanks at its ends. -/
def trimBlanks (cs : List Char) : List Char :=
  let blank := fun c : Char => c = ' ' || c = '\t' || c = '\r'
  ((cs.dropWhile blank).reverse.dropWhile blank).reverse

/-- The value of a digit, decimal or hexadecimal. -/
def digitValue (c : Char) : Option Nat :=
  if '0' ≤ c ∧ c ≤ '9' then some (c.toNat - '0'.toNat)
  else if 'a' ≤ c ∧ c ≤ 'f' then some (c.toNat - 'a'.toNat + 10)
  else if 'A' ≤ c ∧ c ≤ 'F' then some (c.toNat - 'A'.toNat + 10)
  else none

/-- A nonempty digit string read in a base. -/
def readDigits (base : Nat) (cs : List Char) : Option Nat :=
  if cs = [] then none
  else cs.foldl (fun acc c =>
    match acc, digitValue c with
    | some n, some d => if d < base then some (n * base + d) else none
    | _, _ => none) (some 0)

/-- "Numbers are decimal or `0x` hexadecimal." (R75) -/
def readNumber : List Char → Option Nat
  | '0' :: 'x' :: cs => readDigits 16 cs
  | cs => readDigits 10 cs

/-- The line of a mnemonic and its operand texts. The mnemonics and CC, CA are in capitals, as R75 and R76 write them
(log entry 18). -/
def readLine (mnemonic : List Char) (ops : List (List Char)) : Option AsmLine :=
  match mnemonic, ops with
  | ['N', 'O', 'P'], [] => some .nop
  | ['C', 'L', 'E', 'A', 'R'], [] => some .clear
  | ['T', 'I', 'C', 'K'], [] => some .tick
  | ['U', 'N', 'L', 'O', 'C', 'K'], [] => some .unlock
  | ['I', 'N', 'I', 'T'], [['C', 'C'], n] => (readNumber n).map (.init false)
  | ['I', 'N', 'I', 'T'], [['C', 'A'], n] => (readNumber n).map (.init true)
  | ['B', 'R', 'I', 'G', 'H', 'T'], [n] => (readNumber n).map .bright
  | ['L', 'O', 'C', 'K'], [n] => (readNumber n).map .lock
  | ['.', 'w', 'o', 'r', 'd'], [n] => (readNumber n).map .word
  | ['D', 'P', 'O', 'N'], [n] => (readNumber n).map .dpon
  | ['D', 'P', 'O', 'F', 'F'], [n] => (readNumber n).map .dpoff
  | ['B', 'L', 'A', 'N', 'K', 'D'], [n] => (readNumber n).map .blankd
  | ['D', 'A', 'S', 'H', 'D'], [n] => (readNumber n).map .dashd
  | ['S', 'E', 'T', 'D'], [p, v] => (readNumber p).bind fun p => (readNumber v).map (.setd p)
  | ['S', 'E', 'T', 'D', 'P'], [p, v] => (readNumber p).bind fun p => (readNumber v).map (.setdp p)
  | ['H', 'E', 'X', 'D'], [p, v] => (readNumber p).bind fun p => (readNumber v).map (.hexd p)
  | _, _ => none

/-- One line of text: "a mnemonic, then operands separated by commas. `;` starts a comment." (R75). A line with nothing
but a comment gives no word; none is an assembly error. -/
def assembleLine (text : List Char) : Option (List CmdWord) :=
  let code := trimBlanks ((cutAt ';' text).headD [])
  if code = [] then some []
  else
    let mnemonic := code.takeWhile (fun c => c ≠ ' ' ∧ c ≠ '\t')
    let rest := trimBlanks (code.drop mnemonic.length)
    let ops := if rest = [] then [] else (cutAt ',' rest).map trimBlanks
    ((readLine mnemonic ops).bind assemble).map fun w => [w]

/-- A program text, one command per line (R75): its words in order, or none at the first assembly error. -/
def assembleText (text : List Char) : Option (List CmdWord) :=
  (cutAt '\n' text).foldr (fun line acc => (assembleLine line).bind fun ws => acc.map (ws ++ ·)) (some [])

end Sys2Proof.Machine
end

