-- ==== Sys2Proof/Machine/HostFormatter.lean ====
section
/-! DEFINITION. The host reference formatter (46_host_formatter.md, R250-R255): software around the DDC that turns
values into command sequences. Outside the block (R5): nothing of the machine depends on it. The policies the source
leaves open are arguments. -/

namespace Sys2Proof.Machine

/-- What the reference host knows and how it is set up: the digit count n and the flag `leadingZerosDefault` it passed to
`initialize` (R250; neither has a default), STRICT_UPDATE (default 0) and LZ_KEEP_DP_DIGIT (default 1). -/
structure FormatterSetup where
  n : Nat
  leadingZerosDefault : Bool
  strictUpdate : Bool := false
  lzKeepDpDigit : Bool := true
deriving DecidableEq, Repr

/-- A digit list D[0..n-1] of codes and a mask M (R250). -/
structure Layout where
  digits : List Byte
  mask : Byte
deriving DecidableEq, Repr

/-- BLANK and DASH as the host writes them (R101, R254). -/
def blankCode : Byte := 16
def dashCode : Byte := 17

/-- dpos of R251: "d = 0 and d >= n give no point" (D36). -/
def pointPosition (n d : Nat) : Option Nat :=
  if 1 ≤ d ∧ d + 1 ≤ n then some (n - 1 - d) else none

/-- M of R251. -/
def pointMask : Option Nat → Byte
  | none => 0
  | some p => 1#8 <<< p

/-- D of R251 before suppression: right-aligned decimal digits, D[0] most significant. -/
def decimalDigits (n m : Nat) : List Byte :=
  (List.range n).map fun i => BitVec.ofNat 8 (m / 10 ^ (n - 1 - i) % 10)

/-- The while loop of R251: leading zeros turn BLANK up to the first digit that is not 0, is the rightmost, or is at or
after the point when LZ_KEEP_DP_DIGIT keeps it. `i` is the position of the list's head. -/
def suppressZeros (n : Nat) (keep : Bool) (dpos : Option Nat) : Nat → List Byte → List Byte
  | _, [] => []
  | i, d :: rest =>
    if i + 1 < n ∧ d = 0 ∧ !(keep && dpos.any (· ≤ i)) then
      blankCode :: suppressZeros n keep dpos (i + 1) rest
    else d :: rest

/-- `setInteger` for value ≥ 0 (R251, R255): clamped to 10^n - 1, right-aligned, the point d places from the right. -/
def setInteger (h : FormatterSetup) (value : Nat) (d : Nat := 0) (leadingZeros : Option Bool := none) : Layout :=
  let dpos := pointPosition h.n d
  let digits := decimalDigits h.n (min value (10 ^ h.n - 1))
  { digits := if leadingZeros.getD h.leadingZerosDefault then digits
      else suppressZeros h.n h.lzKeepDpDigit dpos 0 digits
    mask := pointMask dpos }

/-- SIGN_POLICY (R252), OPEN: how a host lays out a negative value, from its setup, the magnitude, the decimal place and
the leading-zero choice. An argument everywhere; a claim about a negative value holds for every policy or names one.
That a policy reads these four and answers a layout is the model's form of it: DESIGN CHOICE, log entry 17. -/
abbrev SignPolicy := FormatterSetup → Nat → Nat → Option Bool → Layout

/-- SIGN_A of R252, "not normative": D[0] is BLANK, positions 1..n-1 are filled as an (n-1)-digit display (the magnitude
clamped to 10^(n-1) - 1), and "the decimal point stays at n-1-d". With d = n-1 that is position 0, which the
(n-1)-digit display does not have, so its zeros are suppressed as without a point: DESIGN CHOICE, log entry 17. -/
def signA : SignPolicy := fun h magnitude d leadingZeros =>
  if h.n = 0 then { digits := [], mask := 0 }
  else
    { digits := blankCode :: (setInteger { h with n := h.n - 1 } magnitude d leadingZeros).digits
      mask := pointMask (pointPosition h.n d) }

/-- `setInteger` for any value (R251, R252). -/
def setSigned (policy : SignPolicy) (h : FormatterSetup) (value : Int) (d : Nat := 0)
    (leadingZeros : Option Bool := none) : Layout :=
  match value with
  | .ofNat v => setInteger h v d leadingZeros
  | .negSucc v => policy h (v + 1) d leadingZeros

/-- A value of `setFloat` (R253): a finite one as the exact ratio ± num / den, or a non-finite one. -/
inductive HostFloat
  | finite (negative : Bool) (num den : Nat)
  | infinite (negative : Bool)
  | notANumber
deriving DecidableEq, Repr

/-- "Ties round half away from zero" (R253), on a magnitude num / den. -/
def roundHalfAway (num den : Nat) : Nat := (2 * num + den) / (2 * den)

/-- NONFINITE_POLICY (R253, U8), OPEN: what a host shows for a non-finite value, from its setup, the value and
decimalPlaces; `none` is no update. An argument everywhere; that a policy reads these three and answers a layout or no
update is the model's form of it: DESIGN CHOICE, log entry 17. -/
abbrev NonfinitePolicy := FormatterSetup → HostFloat → Nat → Option Layout

/-- `setFloat` (R253): scale by 10^decimalPlaces, round, delegate to `setInteger` with the point at decimalPlaces and
the default leading zeros. "Negative values go through SIGN_POLICY": the value's sign decides, also when it rounds to 0.
A non-finite value goes through NONFINITE_POLICY, the only case that may answer no update. -/
def setFloat (policy : SignPolicy) (nonfinite : NonfinitePolicy) (h : FormatterSetup)
    (value : HostFloat) (decimalPlaces : Nat) : Option Layout :=
  match value with
  | .finite negative num den =>
    let v := roundHalfAway (num * 10 ^ decimalPlaces) den
    some (if negative ∧ num ≠ 0 then policy h v decimalPlaces none else setInteger h v decimalPlaces none)
  | .infinite negative => nonfinite h (.infinite negative) decimalPlaces
  | .notANumber => nonfinite h .notANumber decimalPlaces

/-- The character map of R254; "any other, including 'a'..'f' and '.'" is BLANK. -/
def charCode (c : Char) : Byte :=
  if '0' ≤ c ∧ c ≤ '9' then BitVec.ofNat 8 (c.toNat - '0'.toNat)
  else if 'A' ≤ c ∧ c ≤ 'F' then BitVec.ofNat 8 (c.toNat - 'A'.toNat + 10)
  else if c = '-' then dashCode
  else blankCode

/-- `setChars` (R254): character i to position i, BLANK after the text, nothing past n-1, no point. -/
def setChars (h : FormatterSetup) (text : List Char) : Layout where
  digits := (List.range h.n).map fun i => (text[i]?).elim blankCode charCode
  mask := 0

/-- The command sequence of R250: `LOCK 1` under STRICT_UPDATE, SETD i, D[i] for every position, SETDP i, M[i] for
every position, `LOCK 0` under STRICT_UPDATE. -/
def updateSequence (h : FormatterSetup) (l : Layout) : List Instr :=
  (if h.strictUpdate then [Instr.lock true] else []) ++
  (List.range h.n).map (fun i => Instr.setDigit (BitVec.ofNat 4 i) (l.digits.getD i blankCode)) ++
  (List.range h.n).map (fun i => Instr.setDp (BitVec.ofNat 4 i) (l.mask.getLsbD i)) ++
  (if h.strictUpdate then [Instr.lock false] else [])

end Sys2Proof.Machine
end

