-- ==== Sys2Proof/Safety.lean ====
section
/-! DEFINITION. What counts as a legal state and a well-behaved run: the invariants of R22, R36, R146, R147 and R152,
and the duties of the agents around the DDC (R39, R352) as predicates a claim takes as premises. -/

namespace Sys2Proof.Machine

/-- The select byte enables exactly position p: bit p is its only 0 (R122). -/
abbrev SelectsOnly (b : Byte) (p : Fin 8) : Prop := ∀ i : Fin 8, b.getLsbD i.val = decide (i ≠ p)

/-- "exactly one bit equal to 0" (R36g, R122, R154). -/
abbrev OneDigit (b : Byte) : Prop := ∃ p : Fin 8, SelectsOnly b p

/-- The legal values of R22 and the invariants (a) to (f) of R36, with the part of (g) that one state shows: a frame in
flight, or a nonzero SW, has a one-hot select byte. (g) itself is about a run: `FrameStarted`. `firstEvent`: event 0 is
due at once, in the cycle after the grant (R144, R171). -/
structure Legal (s : State) : Prop where
  config : s.cfg.wf = true
  count : s.ndig.toNat ≤ 8
  index : s.ndig ≠ 0 → s.idx.val < s.ndig.toNat
  indexUnconfigured : s.ndig = 0 → s.idx = 0
  unused : ∀ i : Fin 8, s.ndig.toNat ≤ i.val → s.buf[i.val] = 16 ∧ s.dpm.getLsbD i.val = false
  idle : s.busy = false → s.ph = 0 ∧ s.tmr = 0
  inFlight : s.busy = true → s.ndig ≠ 0
  bright : s.bright.toNat ≤ 100
  timer : s.tmr < s.cfg.phaseCycles
  firstEvent : s.ph = 0 → s.tmr = 0
  select : s.busy = true ∨ s.sw ≠ 0 → OneDigit (s.sw.extractLsb' 0 8)

/-- The lines as R142, R146 and R147 have them: idle, CLK and STB are low and DATA keeps SW[0]; in flight, CLK is high
just between events 3j+1 and 3j+2, STB just between events 48 and 49, and DATA is the last bit presented. -/
structure LinesFollowFrame (s : State) : Prop where
  idle : s.busy = false → s.clk = false ∧ s.stb = false ∧ s.data = s.sw.getLsbD 0
  clk : s.busy = true → s.clk = decide (s.ph.val % 3 = 2 ∧ s.ph.val < 48)
  stb : s.busy = true → s.stb = decide (s.ph.val = 49)
  data : s.busy = true → 1 ≤ s.ph.val → s.data = shiftBit s.sw (min ((s.ph.val - 1) / 3) 15)

/-- How many of a frame's bits the chain has taken when the next event is `ph` (R142, R151). -/
def shiftsDone : Edge → Nat → Nat
  | .rising, ph => (ph + 1) / 3
  | .falling, ph => ph / 3

/-- The chain in the course of a frame (R151): the bits shifted so far stand in its first stages, the latest in stage 0;
after the rising edge of STB the latched outputs are the frame. -/
structure ChainFollowsFrame (s : State) : Prop where
  shifted : s.busy = true → ∀ j, j < shiftsDone s.cfg.shiftEdge s.ph.val →
    s.chain.sr.getLsbD (shiftsDone s.cfg.shiftEdge s.ph.val - 1 - j) = shiftBit s.sw j
  latched : s.busy = true → s.cfg.latchEdge = .rising → s.ph.val = 49 → s.chain.qf ++ s.chain.qn = s.sw

/-- All three: what every run from reset keeps. -/
structure Sound (s : State) : Prop where
  legal : Legal s
  lines : LinesFollowFrame s
  chain : ChainFollowsFrame s

/-- The input sample `i` cycles from now. -/
def inputAt (s : State) (i : Nat) : Inputs := s.inputs.getD i {}

/-- No reset in the next `n` cycles. -/
def NoReset (s : State) (n : Nat) : Prop := ∀ i, i < n → (inputAt s i).rst = false

/-- The command executed in this cycle, from whichever port. -/
def grantedInstr (s : State) : Option Instr := (grant s).map (fun p => decode (grantedWord s p))

/-- An INIT is executed in this cycle. -/
def InitGranted (s : State) : Prop := ∃ polb cnt, grantedInstr s = some (.init polb cnt)

/-- "a frame has been started since the last reset or INIT" (R36g): a TICK was granted with NDIG ≥ 1, and no cycle since
was a reset or executed an INIT. -/
inductive FrameStarted : State → Prop
  | start {s t : State} : Legal s → grantedInstr s = some .tick → s.ndig ≠ 0 → step s = .next t → FrameStarted t
  | later {s t : State} : FrameStarted s → s.now.rst = false → ¬ InitGranted s → step s = .next t → FrameStarted t

/-- "From the strobe of the first frame after reset or INIT onward" (R154, R348): the chain latched a frame, and no cycle
since was a reset or executed an INIT. -/
inductive FrameLatched : State → Prop
  | strobe {s t : State} : Sound s → s.now.rst = false → step s = .next t →
      crosses s.cfg.latchEdge s.stb t.stb = true → FrameLatched t
  | later {s t : State} : FrameLatched s → s.now.rst = false → ¬ InitGranted s → step s = .next t → FrameLatched t

/-- `k` cycles from a state. -/
abbrev runCycles (k : Nat) (s : State) : Host.Outcome State Fault Refusal := Host.Core.run Sys2Proof.core k s

/-- What R225's transaction view keeps of a state: everything but the timer, the arbiter's turn and the ports. -/
def untimed (s : State) : State := { s with tmr := 0, rr := .tick, inputs := [] }

/-- "perform one line event of the frame in flight" (R225), without its timing; the chain samples the lines. -/
def eventStep (s : State) : State :=
  (if s.ph = 49 then (performEvent s).completeFrame
   else { performEvent s with ph := s.ph + 1 }).sampleChain s.lines

/-- The atomic steps of R225: one command, a TICK or INIT only when no frame is in flight (R225c); or one line event of
the frame in flight. -/
inductive Transaction : State → State → Prop
  | command {s t : State} (w : CmdWord) : (waitsForFrame w = true → s.busy = false) →
      exec (decode w) s = .next t → Transaction s t
  | event {s : State} : s.busy = true → Transaction s (eventStep s)

/-- The cycle performs event 49 and so completes a frame (R174). -/
def completesFrame (s : State) : Bool := s.busy && s.tmr == 0 && s.ph == 49

/-- A run of cycles with no reset and no INIT (R175), from the first state to the last, in which `ticks` TICKs were
granted and `frames` frames completed. -/
inductive FrameRun : Nat → Nat → State → State → Prop
  | start {s : State} : FrameRun 0 0 s s
  | cycle {s u v : State} {ticks frames : Nat} : FrameRun ticks frames s u → u.now.rst = false → ¬ InitGranted u →
      step u = .next v →
      FrameRun (ticks + if grantedInstr u = some .tick then 1 else 0)
        (frames + if completesFrame u then 1 else 0) s v

/-- The host's duty of R39: a command presented and not granted is presented again in the next cycle, unchanged. -/
def HostHoldsRequest (s : State) : Prop :=
  s.now.cmdValid = true → grant s ≠ some .host → (inputAt s 1).cmdValid = true ∧ (inputAt s 1).cmd = s.now.cmd

/-- The cadence source's duty of R39: tick_req stays 1 until tick_ready. -/
def CadenceHoldsRequest (s : State) : Prop :=
  s.now.tickReq = true → grant s ≠ some .tick → (inputAt s 1).tickReq = true

/-- R352: the frame rate the DDC can start reaches the cadence REFRESH_HZ_MIN × NDIG asks for:
(49·PHASE_CYCLES + 2) × T_CLK < 1 / (REFRESH_HZ_MIN × NDIG), in picoseconds. -/
def RefreshReachable (c : Config) (n : Nat) : Prop :=
  (49 * c.phaseCycles + 2) * c.tClkPs * (c.refreshHzMin * n) < 1000000000000

end Sys2Proof.Machine
end

