-- ==== Sys2Proof/Certificates/Slice0/Obligations.lean ====
section
/-! DEFINITION. The statements for the provers. Each docstring names the rule of spec/ a statement formalises. Every
statement about the state is for every configuration unless it says `Config.wf` or names the default. -/

open Sys2Proof Sys2Proof.Machine

/-! ### Encoding -/

/-- R77, line by line: the assembled words, and what the three decoded examples do. -/
def Obligations.WorkedEncodings : Prop :=
  (assemble (.init true 4) = some 0x1104 ∧ assemble (.init false 8) = some 0x1008 ∧
   assemble (.setd 2 7) = some 0x2207 ∧ assemble (.setd 3 16) = some 0x2310 ∧ assemble (.setdp 1 1) = some 0x3101 ∧
   assemble .clear = some 0x4000 ∧ assemble (.bright 50) = some 0x5032 ∧ assemble .tick = some 0x6000 ∧
   assemble (.lock 1) = some 0x7001 ∧ assemble (.word 0x9ABC) = some 0x9ABC) ∧
  (∀ s, exec (decode 0x9ABC) s = .next s) ∧
  (decode 0x2FFF = .setDigit 15 255 ∧ ∀ s : State, s.ndig.toNat ≤ 8 → exec (decode 0x2FFF) s = .next s) ∧
  (decode 0x31FE = .setDp 1 false ∧ 0x31FE &&& ~~~(usedBits 0x31FE) = (0x7F#16 <<< 1) ∧
   ∀ s : State, 1 < s.ndig.toNat → exec (decode 0x31FE) s = .next { s with dpm := s.dpm &&& 0xFD })

/-- One word of each row, written out bit by bit from R71's patterns, decodes to its instruction (R71-R73). -/
def Obligations.WordsOfEveryRowDecode : Prop :=
  decode 0b0000000000000000 = .nop ∧ decode 0b0001000100000100 = .init true 4 ∧
  decode 0b0010001000000111 = .setDigit 2 7 ∧ decode 0b0011000100000001 = .setDp 1 true ∧
  decode 0b0100000000000000 = .clear ∧ decode 0b0101000010010110 = .setBrightness 150 ∧
  decode 0b0110000000000000 = .tick ∧ decode 0b0111000000000001 = .lock true ∧
  decode 0b1001101010111100 = .reserved 9

/-- Decoding the word of a well-formed instruction gives it back, every operand at every value (R71-R73). -/
def Obligations.DecodeEncodeRoundTrip : Prop :=
  ∀ i : Instr, i.wf = true → decode (encode i) = i

/-- R71, R74: a word's ignored bits do not matter: encoding what a word decodes to gives the word with them 0, and that
word decodes to the same. -/
def Obligations.EncodeDecodeKeepsUsedBits : Prop :=
  ∀ w : CmdWord, encode (decode w) = w &&& usedBits w ∧ decode (w &&& usedBits w) = decode w

/-- R73, R74: every word decodes to a well-formed instruction, and exactly one row of the match/mask table accepts it,
the row of that instruction's mnemonic. -/
def Obligations.DecoderTotalAndUnambiguous : Prop :=
  ∀ w : CmdWord, (decode w).wf = true ∧
    ∃ r ∈ opcodeRows, r.accepts w = true ∧ r.mnemonic = (decode w).mnemonic ∧
      ∀ r' ∈ opcodeRows, r'.accepts w = true → r' = r

/-- R75, R76: a line assembles exactly when its operands are in range, to a word that decodes to the command the line
names; a pseudo-instruction is its expansion. -/
def Obligations.AssemblerAgreesWithDecoder : Prop :=
  (assemble .nop).map decode = some .nop ∧ (assemble .clear).map decode = some .clear ∧
  (assemble .tick).map decode = some .tick ∧
  (∀ ca n, (assemble (.init ca n)).map decode = if n ≤ 255 then some (.init ca (BitVec.ofNat 8 n)) else none) ∧
  (∀ p v, (assemble (.setd p v)).map decode =
    if p ≤ 15 ∧ v ≤ 255 then some (.setDigit (BitVec.ofNat 4 p) (BitVec.ofNat 8 v)) else none) ∧
  (∀ p on, (assemble (.setdp p on)).map decode =
    if p ≤ 15 ∧ on ≤ 1 then some (.setDp (BitVec.ofNat 4 p) (decide (on = 1))) else none) ∧
  (∀ pct, (assemble (.bright pct)).map decode =
    if pct ≤ 255 then some (.setBrightness (BitVec.ofNat 8 pct)) else none) ∧
  (∀ l, (assemble (.lock l)).map decode = if l ≤ 1 then some (.lock (decide (l = 1))) else none) ∧
  (∀ w, assemble (.word w) = if w ≤ 0xFFFF then some (BitVec.ofNat 16 w) else none) ∧
  (assemble .unlock = assemble (.lock 0)) ∧
  (∀ p, assemble (.dpon p) = assemble (.setdp p 1) ∧ assemble (.dpoff p) = assemble (.setdp p 0) ∧
    assemble (.blankd p) = assemble (.setd p 16) ∧ assemble (.dashd p) = assemble (.setd p 17)) ∧
  (∀ p h, assemble (.hexd p h) = if h ≤ 15 then assemble (.setd p h) else none)

/-! ### The two encoders -/

/-- R101's table with the default GLYPH and SEG_BIT: canonical patterns and POL = 1 wire bytes of codes 0..17, and BLANK
for 18..255. -/
def Obligations.SegmentRomTable : Prop :=
  (List.range 18).map (fun k => segRom {} (BitVec.ofNat 8 k)) =
    [0x3F, 0x06, 0x5B, 0x4F, 0x66, 0x6D, 0x7D, 0x07, 0x7F, 0x6F, 0x77, 0x7C, 0x39, 0x5E, 0x79, 0x71, 0x00, 0x40] ∧
  (List.range 18).map (fun k => segWire {} (BitVec.ofNat 8 k) false true) =
    [0xC0, 0xF9, 0xA4, 0xB0, 0x99, 0x92, 0x82, 0xF8, 0x80, 0x90, 0x88, 0x83, 0xC6, 0xA1, 0x86, 0x8E, 0xFF, 0xBF] ∧
  ∀ code : Byte, 18 ≤ code.toNat → segRom {} code = 0x00 ∧ segWire {} code false true = 0xFF

/-- R100-R103 for every legal SEG_BIT and GLYPH: in CANON a segment's bit is 1 just when the code's glyph lights it, the
point's bit is the decimal point, and a code outside the table has the BLANK pattern. -/
def Obligations.CanonicalPatternLightsTheGlyph : Prop :=
  ∀ (c : Config) (code : Byte) (dp : Bool), c.wf = true →
    (∀ seg : Segment, seg ≠ .DP → (canon c code dp).getLsbD (c.segBit.of seg).val = decide (seg ∈ glyphOf c code)) ∧
    (canon c code dp).getLsbD (c.segBit.of .DP).val = dp ∧
    (16 ≤ code.toNat → code ≠ c.codeDash → segRom c code = 0)

/-- R104, R106, R107: the POL = 1 wire byte is the complement of the POL = 0 one, which is the canonical pattern, for
every code and decimal point; so an all-on canonical pattern is 0x00 on a common-anode wire, as code 8 with its point is
by default. -/
def Obligations.PolarityComplements : Prop :=
  (∀ (c : Config) (code : Byte) (dp : Bool), segWire c code dp true = ~~~(segWire c code dp false) ∧
    segWire c code dp false = canon c code dp ∧ (canon c code dp = 0xFF → segWire c code dp true = 0x00)) ∧
  canon {} 8 true = 0xFF ∧ segWire {} 8 true true = 0x00

/-- R120, R121: for a valid position exactly bit p is 0; otherwise all bits are 1. -/
def Obligations.SelectByteOneHotActiveLow : Prop :=
  ∀ (p : Byte) (n : BitVec 4), n.toNat ≤ 8 →
    (p.toNat < n.toNat → ∀ i, i < 8 → (selRom p n).getLsbD i = decide (i ≠ p.toNat)) ∧
    (n.toNat ≤ p.toNat → selRom p n = 0xFF)

/-! ### The commands -/

/-- R191, R204: a word with opcode 0 is NOP and one with opcode 8..15 RESERVED; each completes, leaves the state
unchanged, and is always eligible. -/
def Obligations.NopAndReservedLeaveState : Prop :=
  (∀ s, exec .nop s = .next s) ∧ (∀ op s, exec (.reserved op) s = .next s) ∧
  (∀ w : CmdWord, fieldOp w = 0 → decode w = .nop) ∧
  (∀ w : CmdWord, w &&& 0x8000 = 0x8000 → decode w = .reserved (fieldOp w)) ∧
  ∀ w : CmdWord, (fieldOp w = 0 ∨ 8 ≤ (fieldOp w).toNat) →
    (∀ s, exec (decode w) s = .next s) ∧
    (∀ s : State, s.now.cmdValid = true → s.now.cmd = w → eligibleHost s = true)

/-- R192: opcode 0x1 is INIT with POLB = cmd[8] and CNT = cmd[7:0]; exec of INIT completes with the new POL, NDIG, BUF,
DPM and IDX, and changes nothing else; it is eligible just when no frame is in flight, and waits with cmd_ready = 0
while one is. With BUSY = 1, where no step executes INIT, what exec gives is the model's choice (log entry 8). -/
def Obligations.InitConfigures : Prop :=
  (∀ w : CmdWord, fieldOp w = 0x1 → decode w = .init (w.getLsbD 8) (w.extractLsb' 0 8)) ∧
  ∀ (s : State) (polb : Bool) (cnt : Byte), s.cfg.wf = true →
    (∃ t, exec (.init polb cnt) s = .next t ∧ t.pol = polb ∧ t.ndig.toNat = min cnt.toNat 8 ∧
      (∀ i : Fin 8, t.buf[i.val] = 16) ∧ t.dpm = 0 ∧ t.idx = 0 ∧
      t = { s with pol := t.pol, ndig := t.ndig, buf := t.buf, dpm := t.dpm, idx := t.idx }) ∧
    (s.now.cmdValid = true → decode s.now.cmd = .init polb cnt →
      (eligibleHost s = true ↔ s.busy = false) ∧ (s.busy = true → (outputs s).cmdReady = false))

/-- R194, R51: opcode 0x2 is SET_DIGIT with POS = cmd[11:8] and VAL = cmd[7:0]; SET_DIGIT completes; a position below
NDIG takes VAL unchanged, every other entry and all other state stay; at or above NDIG, and always for POS 8..15,
nothing changes. -/
def Obligations.SetDigitWritesOneEntry : Prop :=
  (∀ w : CmdWord, fieldOp w = 0x2 → decode w = .setDigit (w.extractLsb' 8 4) (w.extractLsb' 0 8)) ∧
  ∀ (s : State) (pos : Nibble) (val : Byte), ∃ t, exec (.setDigit pos val) s = .next t ∧
    (∀ i : Fin 8, t.buf[i.val] = if pos.toNat < s.ndig.toNat ∧ i.val = pos.toNat then val else s.buf[i.val]) ∧
    t = { s with buf := t.buf } ∧ (s.ndig.toNat ≤ pos.toNat → t = s) ∧
    (s.ndig.toNat ≤ 8 → 8 ≤ pos.toNat → t = s)

/-- R196: opcode 0x3 is SET_DP with POS = cmd[11:8] and ON = cmd[0]; SET_DP completes; a position below NDIG has its
mask bit set to ON, every other bit and all other state stay; at or above NDIG nothing changes. -/
def Obligations.SetDpWritesOneBit : Prop :=
  (∀ w : CmdWord, fieldOp w = 0x3 → decode w = .setDp (w.extractLsb' 8 4) (w.getLsbD 0)) ∧
  ∀ (s : State) (pos : Nibble) (on : Bool), ∃ t, exec (.setDp pos on) s = .next t ∧
    (∀ i : Fin 8, t.dpm.getLsbD i.val =
      if pos.toNat < s.ndig.toNat ∧ i.val = pos.toNat then on else s.dpm.getLsbD i.val) ∧
    t = { s with dpm := t.dpm } ∧ (s.ndig.toNat ≤ pos.toNat → t = s)

/-- R198: opcode 0x4 is CLEAR; it completes, every entry BLANK and the mask 0, all other state unchanged. -/
def Obligations.ClearBlanksAll : Prop :=
  (∀ w : CmdWord, fieldOp w = 0x4 → decode w = .clear) ∧
  ∀ s : State, s.cfg.wf = true → ∃ t, exec .clear s = .next t ∧ (∀ i : Fin 8, t.buf[i.val] = 16) ∧ t.dpm = 0 ∧
    t = { s with buf := t.buf, dpm := t.dpm }

/-- R200: opcode 0x5 is SET_BRIGHTNESS with PCT = cmd[7:0]; it completes with BRIGHT = min(PCT, 100), shown on the
`bright` output, and changes nothing else; no snapshot and no line event depends on BRIGHT. -/
def Obligations.SetBrightnessSaturates : Prop :=
  (∀ w : CmdWord, fieldOp w = 0x5 → decode w = .setBrightness (w.extractLsb' 0 8)) ∧
  (∀ (s : State) (b : BitVec 7), ({ s with bright := b } : State).snapshot = s.snapshot ∧
    frameEngine { s with bright := b } = { frameEngine s with bright := b }) ∧
  ∀ (s : State) (pct : Byte), s.cfg.wf = true → ∃ t, exec (.setBrightness pct) s = .next t ∧
    t.bright.toNat = min pct.toNat 100 ∧ (outputs t).bright = t.bright ∧ t = { s with bright := t.bright }

/-- R202, R29: opcode 0x7 is LOCK with L = cmd[0]; it completes with LOCK = L and nothing else changed; while LOCK = 1
no tick-port request is eligible, and LOCK does not bear on the command port. -/
def Obligations.LockWritesOnlyLock : Prop :=
  (∀ w : CmdWord, fieldOp w = 0x7 → decode w = .lock (w.getLsbD 0)) ∧
  (∀ (s : State) (l : Bool), exec (.lock l) s = .next { s with lock := l }) ∧
  (∀ s : State, s.lock = true → eligibleTick s = false) ∧
  (∀ (s : State) (l : Bool), eligibleHost { s with lock := l } = eligibleHost s)

/-- R171, R122: opcode 0x6 is TICK; a TICK with NDIG ≥ 1 completes: SW is the segment wire byte above the select byte,
both of position IDX as it stands, the select byte one-hot; the frame starts; nothing else changes. With BUSY = 1, where
no step executes TICK (R221), what exec gives is the model's choice (log entry 8). -/
def Obligations.TickStartsFrame : Prop :=
  (∀ w : CmdWord, fieldOp w = 0x6 → decode w = .tick) ∧
  ∀ s : State, Legal s → s.ndig ≠ 0 → ∃ t, exec .tick s = .next t ∧
    t.sw.extractLsb' 8 8 = segWire s.cfg s.buf[s.idx.val] (s.dpm.getLsbD s.idx.val) s.pol ∧
    t.sw.extractLsb' 0 8 = selRom (BitVec.ofNat 8 s.idx.val) s.ndig ∧
    SelectsOnly (t.sw.extractLsb' 0 8) s.idx ∧
    t = { s with sw := t.sw, busy := true, ph := 0, tmr := 0 }

/-- R173: with NDIG = 0 a granted TICK changes no state; the cycle only consumes the request (the arbiter's turn moves
if there was a contest). -/
def Obligations.TickUnconfiguredDoesNothing : Prop :=
  (∀ s : State, s.ndig = 0 → exec .tick s = .next s) ∧
  ∀ s : State, s.ndig = 0 → grantedInstr s = some .tick →
    step s = .next { s with inputs := s.inputs.tail, rr := turnAfter s }

/-- R300, R302: no command and no cycle ends in a fault or a refusal. -/
def Obligations.NothingStopsTheDDC : Prop :=
  (∀ (i : Instr) (s : State), ∃ t, exec i s = .next t) ∧ ∀ s : State, ∃ t, step s = .next t

/-- R54: every command but TICK, repeated, leaves the state it left the first time. -/
def Obligations.CommandsAreIdempotent : Prop :=
  ∀ (i : Instr) (s t : State), i ≠ .tick → exec i s = .next t → exec i t = .next t

/-- R190: every command but TICK completes, never writes SW, PH, TMR, BUSY, the lines or RR, and is eligible in every
cycle, INIT only when no frame is in flight. -/
def Obligations.BufferCommandsLeaveTheEngineAlone : Prop :=
  ∀ (i : Instr) (s : State), i ≠ .tick →
    (∃ t, exec i s = .next t ∧ t.sw = s.sw ∧ t.ph = s.ph ∧ t.tmr = s.tmr ∧ t.busy = s.busy ∧ t.lines = s.lines ∧
      t.rr = s.rr ∧ t.chain = s.chain ∧ t.cfg = s.cfg ∧ t.inputs = s.inputs) ∧
    (s.now.cmdValid = true → decode s.now.cmd = i →
      (eligibleHost s = true ↔ s.busy = false ∨ ∀ polb cnt, i ≠ .init polb cnt))

/-! ### Reset and the invariants -/

/-- R22: the reset value of every field of the DDC. -/
def Obligations.ResetValues : Prop :=
  State.reset.pol = false ∧ State.reset.ndig = 0 ∧ (∀ i : Fin 8, State.reset.buf[i.val] = 16) ∧
  State.reset.dpm = 0 ∧ State.reset.idx = 0 ∧ State.reset.bright = 100 ∧ State.reset.lock = false ∧
  State.reset.rr = .tick ∧ State.reset.busy = false ∧ State.reset.sw = 0x0000 ∧ State.reset.ph = 0 ∧
  State.reset.tmr = 0 ∧ State.reset.data = false ∧ State.reset.clk = false ∧ State.reset.stb = false

/-- The invariants hold at reset (R22, R36, R147). The default configuration is legal by the model's choice of
PHASE_CYCLES and T_CLK (log entry 4). -/
def Obligations.ResetIsSound : Prop := Sound State.reset

/-- R340: a cycle with rst = 1 grants nothing and leaves every field at its reset value, whatever was in flight; both
ready outputs are 0 in it, and the next cycle's outputs are those of the reset state. -/
def Obligations.ResetCycleResets : Prop :=
  ∀ s : State, s.cfg.wf = true → s.now.rst = true →
    grant s = none ∧ (outputs s).cmdReady = false ∧ (outputs s).tickReady = false ∧
    ∃ t, step s = .next t ∧ t = { State.reset with cfg := s.cfg, chain := t.chain, inputs := s.inputs.tail,
                                                               draws := t.draws } ∧
      (outputs t).lines = ⟨false, false, false⟩ ∧ (outputs t).busy = false ∧ (outputs t).lock = false ∧
      (outputs t).bright = 100 ∧ (outputs t).advDelayUs = 0

/-- R341, R150, U4: a reset during a frame abandons it: the engine is idle, IDX is 0, the lines are 0, and a chain that
latches on the rising edge keeps its latched outputs. Of its stages nothing is said when a frame was in flight (U4: any
value; log entry 13); with none in flight a chain that shifts on the rising edge keeps them. -/
def Obligations.MidFrameResetKeepsTheDisplay : Prop :=
  ∀ s t : State, s.now.rst = true → step s = .next t →
    t.busy = false ∧ t.ph = 0 ∧ t.idx = 0 ∧ t.lines = ⟨false, false, false⟩ ∧
    (s.cfg.latchEdge = .rising → t.chain.qn = s.chain.qn ∧ t.chain.qf = s.chain.qf) ∧
    (s.cfg.shiftEdge = .rising → s.busy = false → t.chain.sr = s.chain.sr)

/-- R343: after a reset the DDC is unconfigured: setters and TICK are no-ops, and it stays so, its lines at 0, until an
INIT with CNT ≥ 1. -/
def Obligations.UnconfiguredUntilInit : Prop :=
  let unconfigured := fun s : State => s.ndig = 0 ∧ s.busy = false ∧ s.lines = ⟨false, false, false⟩
  (∀ s t : State, s.now.rst = true → step s = .next t → unconfigured t ∧ t.pol = false ∧ t.bright = 100 ∧
    t.lock = false ∧ t.rr = .tick) ∧
  (∀ (s : State) (pos : Nibble) (val : Byte) (on : Bool), unconfigured s →
    exec (.setDigit pos val) s = .next s ∧ exec (.setDp pos on) s = .next s ∧ exec .tick s = .next s) ∧
  (∀ s t : State, unconfigured s → step s = .next t →
    (∀ polb cnt, grantedInstr s = some (.init polb cnt) → cnt = 0) → unconfigured t)

/-- R22, R36: the legal values and the invariants (a) to (f), with a one-hot select byte in flight, are kept by every
cycle, resets included. -/
def Obligations.LegalIsInvariant : Prop :=
  ∀ s t : State, Legal s → step s = .next t → Legal t

/-- R36(g): the select byte of SW is one-hot whenever a frame has been started since the last reset or INIT. -/
def Obligations.StartedFrameSelectsOneDigit : Prop :=
  ∀ s : State, FrameStarted s → OneDigit (s.sw.extractLsb' 0 8)

/-- R142, R146, R147: the lines follow the frame through every cycle. -/
def Obligations.LinesFollowFrameIsInvariant : Prop :=
  ∀ s t : State, Legal s → LinesFollowFrame s → step s = .next t → LinesFollowFrame t

/-- R151, R152: the chain takes the frame's bits in order through every cycle, for either sampling edge. -/
def Obligations.ChainFollowsFrameIsInvariant : Prop :=
  ∀ s t : State, Sound s → step s = .next t → ChainFollowsFrame t

/-! ### The frame engine and the chain -/

/-- R142, R141: in a cycle in which the engine performs event k, exactly that line is written, to that value, whatever
command is granted beside it; in any other cycle without reset no line changes. -/
def Obligations.LineEventsInOrder : Prop :=
  ∀ s t : State, s.now.rst = false → step s = .next t →
    (s.busy = true → s.tmr = 0 →
      (∀ j, j < 16 →
        (s.ph.val = 3 * j → t.lines = ⟨s.sw.getLsbD (15 - j), s.clk, s.stb⟩) ∧
        (s.ph.val = 3 * j + 1 → t.lines = ⟨s.data, true, s.stb⟩) ∧
        (s.ph.val = 3 * j + 2 → t.lines = ⟨s.data, false, s.stb⟩)) ∧
      (s.ph.val = 48 → t.lines = ⟨s.data, s.clk, true⟩) ∧
      (s.ph.val = 49 → t.lines = ⟨s.data, s.clk, false⟩)) ∧
    (¬ (s.busy = true ∧ s.tmr = 0) → t.lines = s.lines)

/-- R143, R174: how PH, TMR, BUSY and IDX move in a cycle that starts with a frame in flight: at event 49, which lowers
STB, BUSY becomes 0 and IDX becomes (IDX + 1) mod NDIG; NDIG is at least 1 and does not change. -/
def Obligations.FrameEngineAdvances : Prop :=
  ∀ s t : State, Legal s → s.now.rst = false → s.busy = true → step s = .next t →
    (s.tmr ≠ 0 → t.busy = true ∧ t.ph = s.ph ∧ t.tmr = s.tmr - 1 ∧ t.idx = s.idx) ∧
    (s.tmr = 0 → s.ph.val < 49 →
      t.busy = true ∧ t.ph.val = s.ph.val + 1 ∧ t.tmr = s.cfg.phaseCycles - 1 ∧ t.idx = s.idx) ∧
    (s.tmr = 0 → s.ph.val = 49 →
      t.busy = false ∧ t.ph = 0 ∧ t.tmr = 0 ∧ t.stb = false ∧ t.idx.val = (s.idx.val + 1) % s.ndig.toNat) ∧
    t.ndig = s.ndig ∧ 1 ≤ s.ndig.toNat

/-- R146(e) and its consequences: outside reset no two lines change in one cycle, DATA never changes while CLK is high,
and CLK never changes while STB is high. -/
def Obligations.LinesChangeOneAtATime : Prop :=
  ∀ s t : State, Sound s → s.now.rst = false → step s = .next t →
    (t.data ≠ s.data → t.clk = s.clk ∧ t.stb = s.stb ∧ s.clk = false) ∧
    (t.clk ≠ s.clk → t.data = s.data ∧ t.stb = s.stb ∧ s.stb = false) ∧
    (t.stb ≠ s.stb → t.data = s.data ∧ t.clk = s.clk ∧ s.clk = false)

/-- R147, R35: with no frame in flight the lines and the chain are still, whatever is granted. -/
def Obligations.LinesHoldBetweenFrames : Prop :=
  ∀ s t : State, s.now.rst = false → s.busy = false → step s = .next t → t.lines = s.lines ∧ t.chain = s.chain

/-- R144: a TICK granted in this cycle with NDIG ≥ 1 has event k in the cycle 1 + k·P later; BUSY is 1 through cycle 1 +
49·P and 0 in the cycle after, so that is the first in which a TICK can be granted; IDX has advanced by one modulo
NDIG. -/
def Obligations.FrameTiming : Prop :=
  ∀ s : State, Legal s → grantedInstr s = some .tick → s.ndig ≠ 0 → NoReset s (49 * s.cfg.phaseCycles + 2) →
    (∀ k : Fin 50, ∃ u, runCycles (1 + k.val * s.cfg.phaseCycles) s = .next u ∧
      u.busy = true ∧ u.tmr = 0 ∧ u.ph = k ∧ u.sw = s.snapshot) ∧
    (∀ m, 1 ≤ m → m ≤ 49 * s.cfg.phaseCycles + 1 → ∃ u, runCycles m s = .next u ∧ u.busy = true ∧
      grantedInstr u ≠ some .tick) ∧
    ∃ u, runCycles (49 * s.cfg.phaseCycles + 2) s = .next u ∧ u.busy = false ∧
      u.idx.val = (s.idx.val + 1) % s.ndig.toNat

/-- R152, R172: when the frame is complete, SR = SW, QF is the segment wire byte of the position shown and QN its select
byte, as they stood at the grant, whatever SR held before and whichever edges the chain samples. -/
def Obligations.FrameReachesTheChain : Prop :=
  ∀ s : State, Sound s → grantedInstr s = some .tick → s.ndig ≠ 0 → NoReset s (49 * s.cfg.phaseCycles + 2) →
    ∃ u, runCycles (49 * s.cfg.phaseCycles + 2) s = .next u ∧ u.chain.sr = s.snapshot ∧
      u.chain.qf = segWire s.cfg s.buf[s.idx.val] (s.dpm.getLsbD s.idx.val) s.pol ∧
      u.chain.qn = selRom (BitVec.ofNat 8 s.idx.val) s.ndig

/-- R153, R172: a chain that holds a frame's bytes shows, on a display wired for POL, position p and only p, with
exactly the segments of the code's glyph and the decimal point lit. -/
def Obligations.DisplayShowsTheGlyph : Prop :=
  ∀ (c : Config) (ch : Chain) (code : Byte) (dp pol : Bool) (p : Fin 8) (n : BitVec 4), c.wf = true →
    n.toNat ≤ 8 → p.val < n.toNat → ch.qf = segWire c code dp pol → ch.qn = selRom (BitVec.ofNat 8 p.val) n →
    ∀ (q : Fin 8) (seg : Segment),
      ch.lit c pol q seg = decide (q = p ∧ ((seg ≠ .DP ∧ seg ∈ glyphOf c code) ∨ (seg = .DP ∧ dp = true)))

/-- R345: on a display of the other polarity, every segment of the shown digit that should be lit is dark and the
reverse; the enabled position is the same. -/
def Obligations.WrongPolarityInverts : Prop :=
  ∀ (c : Config) (ch : Chain) (wiring : Bool) (q : Fin 8) (seg : Segment),
    ch.lit c (!wiring) q seg = (ch.enabled q && !(ch.lit c wiring q seg))

/-- R151, R351: in every cycle, resets and INIT and CLEAR included, the latched outputs change only when the chain sees
its latch edge of STB, and the stages only when it sees its shift edge of CLK or a reset abandons a frame (U4). -/
def Obligations.ChainChangesOnlyAtItsEdges : Prop :=
  ∀ s t : State, step s = .next t →
    (crosses s.cfg.latchEdge s.stb t.stb = false → t.chain.qn = s.chain.qn ∧ t.chain.qf = s.chain.qf) ∧
    (s.now.rst = false ∨ s.busy = false → crosses s.cfg.shiftEdge s.clk t.clk = false → t.chain.sr = s.chain.sr)

/-- R154: from the first latched frame after reset or INIT on, exactly one digit is enabled as long as NDIG ≥ 1. -/
def Obligations.OneDigitEnabledInSteadyState : Prop :=
  ∀ s : State, FrameLatched s → s.ndig ≠ 0 → OneDigit s.chain.qn

/-- R175, R174: from a legal state with IDX = i and NDIG = n ≥ 1, after any run of cycles without reset or INIT,
whatever else is granted in it, in which k frames completed, NDIG is n and IDX is (i + k) mod n, and a TICK granted then
snapshots exactly that position. From an idle state the frames completed by then are the TICKs granted before, so the
k-th granted TICK shows position (i + k - 1) mod n. -/
def Obligations.VisitingOrder : Prop :=
  ∀ (s u : State) (ticks frames : Nat), Legal s → s.ndig ≠ 0 → FrameRun ticks frames s u →
    u.ndig = s.ndig ∧ u.idx.val = (s.idx.val + frames) % s.ndig.toNat ∧
    (grantedInstr u = some .tick →
      (s.busy = false → frames = ticks) ∧
      ∃ v, step u = .next v ∧ v.busy = true ∧
        v.sw = segWire u.cfg u.buf[u.idx.val] (u.dpm.getLsbD u.idx.val) u.pol ++
          selRom (BitVec.ofNat 8 ((s.idx.val + frames) % s.ndig.toNat)) s.ndig ∧
        SelectsOnly (v.sw.extractLsb' 0 8) u.idx)

/-- R177, R32: a frame in flight is immune: two states that differ in POL, BUF, DPM, BRIGHT, LOCK, RR and what is
requested go on with the same snapshot, lines, chain, phase and index. -/
def Obligations.FrameInFlightIsImmune : Prop :=
  ∀ s s' t t' : State, s.busy = true →
    s' = { s with pol := s'.pol, buf := s'.buf, dpm := s'.dpm, bright := s'.bright, lock := s'.lock, rr := s'.rr,
                  inputs := s'.inputs } →
    s.now.rst = false → s'.now.rst = false → step s = .next t → step s' = .next t' →
    t.sw = s.sw ∧ t'.sw = t.sw ∧ t'.lines = t.lines ∧ t'.chain = t.chain ∧ t'.ph = t.ph ∧ t'.tmr = t.tmr ∧
    t'.busy = t.busy ∧ t'.idx = t.idx

/-! ### The arbiter and the cycle -/

/-- R220-R222: the words that wait for a frame are those of INIT and TICK; a ready output is up just for an eligible
request that is alone or named by RR; never both, and neither in a reset cycle. -/
def Obligations.GrantFollowsEligibility : Prop :=
  (∀ w : CmdWord, waitsForFrame w = true ↔ decode w = .tick ∨ ∃ polb cnt, decode w = .init polb cnt) ∧
  ∀ s : State,
    let eH := s.now.cmdValid = true ∧ (waitsForFrame s.now.cmd = true → s.busy = false)
    let eT := s.now.tickReq = true ∧ s.busy = false ∧ s.lock = false
    ((outputs s).cmdReady = true ↔ s.now.rst = false ∧ eH ∧ (eT → s.rr = .host)) ∧
    ((outputs s).tickReady = true ↔ s.now.rst = false ∧ eT ∧ (eH → s.rr = .tick)) ∧
    ¬ ((outputs s).cmdReady = true ∧ (outputs s).tickReady = true)

/-- R223, R30: a contest goes to the port RR names and RR then names the other; without a contest RR is unchanged; reset
sets RR so that the tick port wins the first contest. -/
def Obligations.RoundRobin : Prop :=
  ∀ s t : State, step s = .next t →
    (s.now.rst = false → contest s = true → grant s = some s.rr ∧ t.rr = s.rr.other) ∧
    (s.now.rst = false → contest s = false → t.rr = s.rr) ∧
    (s.now.rst = true → t.rr = .tick)

/-- R224: a step runs the command the presented word decodes to. With no frame in flight the step is exec of it on the
state with the sample consumed and RR moved; with one, on the state the frame engine leaves, and the chain then samples
the lines. A tick-port grant runs TICK. -/
def Obligations.StepRunsTheDecodedCommand : Prop :=
  (∀ (s : State) (p : Port), grant s = some p →
    let i := match p with | .host => decode s.now.cmd | .tick => .tick
    (s.busy = false → step s = exec i { s with inputs := s.inputs.tail, rr := turnAfter s }) ∧
    ∃ u, exec i { frameEngine { s with inputs := s.inputs.tail } with rr := turnAfter s } = .next u ∧
      step s = .next (u.sampleChain s.lines)) ∧
  ∀ (s : State) (w : CmdWord) (rest : List Inputs), s.busy = false →
    step { s with inputs := { cmdValid := true, cmd := w } :: rest } = exec (decode w) { s with inputs := rest }

/-- R178: a TICK from the command port and one from the tick port, granted in the same state, leave the same state but
for RR, and the same RR too when there is no contest. -/
def Obligations.BothPortsTickAlike : Prop :=
  ∀ (s t1 t2 : State) (i1 i2 : Inputs) (rest : List Inputs),
    grant { s with inputs := i1 :: rest } = some .host → decode i1.cmd = .tick →
    grant { s with inputs := i2 :: rest } = some .tick →
    step { s with inputs := i1 :: rest } = .next t1 → step { s with inputs := i2 :: rest } = .next t2 →
    t1 = { t2 with rr := t1.rr } ∧
    (contest { s with inputs := i1 :: rest } = false → contest { s with inputs := i2 :: rest } = false → t1 = t2)

/-- R221, R227: a request that is not granted is neither executed nor remembered: with no grant the cycle is that of
idle ports, and beside a granted tick-port TICK the waiting command, and beside a granted command the waiting tick-port
request, moves nothing but the turn. -/
def Obligations.UngrantedRequestsHaveNoEffect : Prop :=
  (∀ s : State, s.now.rst = false → grant s = none →
    step s = step { s with inputs := {} :: s.inputs.tail }) ∧
  (∀ s t t' : State, grant s = some .tick → step s = .next t →
    step { s with inputs := { s.now with cmdValid := false } :: s.inputs.tail } = .next t' →
    t = { t' with rr := t.rr }) ∧
  ∀ s t t' : State, grant s = some .host → step s = .next t →
    step { s with inputs := { s.now with tickReq := false } :: s.inputs.tail } = .next t' →
    t = { t' with rr := t.rr }

/-- R61, R202: from a state with LOCK = 1, as long as no LOCK 0 is granted and no reset comes, no tick-port TICK is
granted. -/
def Obligations.LockHoldsTheTickPort : Prop :=
  ∀ (n : Nat) (s u : State), s.lock = true →
    (∀ k v, k < n → runCycles k s = .next v → v.now.rst = false ∧ grantedInstr v ≠ some (.lock false)) →
    runCycles n s = .next u → u.lock = true ∧ grant u ≠ some .tick

/-- R22's column "written by", over every cycle without reset: only INIT writes POL and NDIG; only INIT, SET_DIGIT and
CLEAR write BUF; only INIT, SET_DP and CLEAR write DPM; only INIT and frame completion IDX; only SET_BRIGHTNESS BRIGHT;
only LOCK the LOCK bit; only a contest RR; only a TICK SW; only the engine the lines; nothing the parameters. -/
def Obligations.OnlyTheNamedWritersWrite : Prop :=
  ∀ s t : State, s.now.rst = false → step s = .next t →
    (t.pol ≠ s.pol ∨ t.ndig ≠ s.ndig → InitGranted s) ∧
    (t.buf ≠ s.buf →
      InitGranted s ∨ grantedInstr s = some .clear ∨ ∃ pos val, grantedInstr s = some (.setDigit pos val)) ∧
    (t.dpm ≠ s.dpm →
      InitGranted s ∨ grantedInstr s = some .clear ∨ ∃ pos on, grantedInstr s = some (.setDp pos on)) ∧
    (t.idx ≠ s.idx → InitGranted s ∨ (s.busy = true ∧ s.tmr = 0 ∧ s.ph = 49)) ∧
    (t.bright ≠ s.bright → ∃ pct, grantedInstr s = some (.setBrightness pct)) ∧
    (t.lock ≠ s.lock → ∃ l, grantedInstr s = some (.lock l)) ∧
    (t.rr ≠ s.rr → contest s = true) ∧
    (t.busy ≠ s.busy → grantedInstr s = some .tick ∨ (s.busy = true ∧ s.tmr = 0 ∧ s.ph = 49)) ∧
    (t.sw ≠ s.sw → grantedInstr s = some .tick) ∧
    (t.ph ≠ s.ph ∨ t.tmr ≠ s.tmr → grantedInstr s = some .tick ∨ s.busy = true) ∧
    (t.lines ≠ s.lines → s.busy = true ∧ s.tmr = 0) ∧ t.cfg = s.cfg

/-- R224: the frame engine and a command that does not wait for the frame write disjoint fields: the order of the two
updates does not matter. -/
def Obligations.EngineAndCommandCommute : Prop :=
  ∀ (i : Instr) (s t : State), i ≠ .tick → (∀ polb cnt, i ≠ .init polb cnt) → exec i s = .next t →
    exec i (frameEngine s) = .next (frameEngine t)

/-- R225: every cycle without reset is, but for timing, at most one transaction that is a line event, made just when one
is due, and then at most one that is a command, made just on a grant and of exactly the granted word, a TICK or INIT
only with no frame in flight. -/
def Obligations.CyclesRefineTransactions : Prop :=
  ∀ s t : State, s.now.rst = false → step s = .next t → ∃ m : State,
    (s.busy = true ∧ s.tmr = 0 → m = eventStep (untimed s) ∧ Transaction (untimed s) m) ∧
    (¬ (s.busy = true ∧ s.tmr = 0) → m = untimed s) ∧
    (grant s = none → untimed t = m) ∧
    (∀ p, grant s = some p → exec (decode (grantedWord s p)) m = .next (untimed t) ∧ Transaction m (untimed t) ∧
      (waitsForFrame (grantedWord s p) = true → m = untimed s ∧ s.busy = false))

/-- R226: the loser of a contest wins the next contest it meets, however many cycles lie between. -/
def Obligations.LoserWinsTheNextContest : Prop :=
  ∀ (n : Nat) (s u : State), NoReset s (n + 2) → contest s = true →
    (∀ k v, 0 < k → k < n + 1 → runCycles k s = .next v → contest v = false) →
    runCycles (n + 1) s = .next u → contest u = true → grant u = some s.rr.other ∧ grant s = some s.rr

/-- R226, R39: a presented command other than INIT and TICK, held by the host until granted, is granted in this cycle or
in the next. -/
def Obligations.PlainCommandWaitsAtMostOneCycle : Prop :=
  ∀ s : State, NoReset s 2 → s.now.cmdValid = true → waitsForFrame s.now.cmd = false → HostHoldsRequest s →
    grant s = some .host ∨ ∃ t, step s = .next t ∧ grant t = some .host

/-- R226: an INIT or TICK held on the command port is granted after at most 2·(49·P + 1) + 1 cycles. -/
def Obligations.HostInitOrTickWaitIsBounded : Prop :=
  ∀ (s : State) (w : CmdWord), Legal s → waitsForFrame w = true →
    let bound := 2 * (49 * s.cfg.phaseCycles + 1) + 1
    NoReset s (bound + 1) →
    (∀ i, i ≤ bound → (inputAt s i).cmdValid = true ∧ (inputAt s i).cmd = w) →
    ∃ k u, k ≤ bound ∧ runCycles k s = .next u ∧ grant u = some .host

/-- R226: a request held on the tick port while LOCK stays 0 is granted after at most 2·(49·P + 1) + 1 cycles. -/
def Obligations.TickPortWaitIsBounded : Prop :=
  ∀ s : State, Legal s →
    let bound := 2 * (49 * s.cfg.phaseCycles + 1) + 1
    NoReset s (bound + 1) → (∀ i, i ≤ bound → (inputAt s i).tickReq = true) →
    (∀ k v, k ≤ bound → runCycles k s = .next v → v.lock = false) →
    ∃ k u, k ≤ bound ∧ runCycles k s = .next u ∧ grant u = some .tick

/-! ### Status outputs and the host formatter -/

/-- R308: adv_delay_us is floor(1000000 / (REFRESH_HZ_MIN × NDIG)), the largest period in microseconds that keeps the
refresh rate, 0 when NDIG = 0, with the eight values of the default. -/
def Obligations.AdvisoryDelay : Prop :=
  (∀ (c : Config) (n : BitVec 4), c.wf = true → n ≠ 0 →
    (advDelay c n).toNat = 1000000 / (c.refreshHzMin * n.toNat) ∧
    ∀ d, d * (c.refreshHzMin * n.toNat) ≤ 1000000 ↔ d ≤ (advDelay c n).toNat) ∧
  (∀ c : Config, advDelay c 0 = 0) ∧ (∀ s : State, (outputs s).advDelayUs = advDelay s.cfg s.ndig) ∧
  (List.range 8).map (fun k => (advDelay {} (BitVec.ofNat 4 (k + 1))).toNat) =
    [20000, 10000, 6666, 5000, 4000, 3333, 2857, 2500]

/-- R352: with PHASE_CYCLES × T_CLK at its minimum of 1 µs and the default 50 Hz, the DDC can start frames fast enough
for every digit count. -/
def Obligations.RefreshReachableAtMinimumPulse : Prop :=
  ∀ (c : Config) (n : BitVec 4), c.wf = true → c.phaseCycles * c.tClkPs = c.tPulseMinPs → c.refreshHzMin = 50 →
    n.toNat ≤ 8 → RefreshReachable c n.toNat

/-- R251, R255 (host reference, outside the block): with leading zeros visible, the n digits are decimal and read back
as the value clamped to 10^n - 1, wherever the point is. -/
def Obligations.FormatterDigitsReadBack : Prop :=
  ∀ (h : FormatterSetup) (value d : Nat),
    (setInteger h value d (some true)).digits.length = h.n ∧
    (∀ x ∈ (setInteger h value d (some true)).digits, x.toNat ≤ 9) ∧
    (setInteger h value d (some true)).digits.foldl (fun acc x => acc * 10 + x.toNat) 0 = min value (10 ^ h.n - 1)

/-- R251 (host reference, outside the block): suppression turns BLANK exactly the digits before the first position that
is the rightmost, holds a digit other than 0, or is at or after the point when LZ_KEEP_DP_DIGIT keeps it; the rest of
the digits and the mask are those shown with leading zeros. -/
def Obligations.FormatterBlanksLeadingZeros : Prop :=
  ∀ (h : FormatterSetup) (value d : Nat), 1 ≤ h.n →
    let stops := fun i : Nat => i = h.n - 1 ∨ (setInteger h value d (some true)).digits.getD i 0 ≠ 0 ∨
      (h.lzKeepDpDigit = true ∧ 1 ≤ d ∧ d ≤ h.n - 1 ∧ h.n - 1 - d ≤ i)
    ∃ k, k < h.n ∧ stops k ∧ (∀ i, i < k → ¬ stops i) ∧
      (setInteger h value d (some false)).digits =
        List.replicate k blankCode ++ (setInteger h value d (some true)).digits.drop k ∧
      (setInteger h value d (some false)).mask = (setInteger h value d (some true)).mask
end

