-- ==== Sys2Proof/Laws/Encoding.lean ====
section
/-! SUPPORT. The words and fields as numbers: the arithmetic form of every encoding arm and of every field, on which the
encoding facts are decided by omega. -/

namespace Sys2Proof

/-- A concatenation as a number. -/
theorem append_toNat {n m : Nat} (x : BitVec n) (y : BitVec m) : (x ++ y).toNat = x.toNat * 2 ^ m + y.toNat := by
  rw [BitVec.toNat_append, ← Nat.shiftLeft_add_eq_or_of_lt y.isLt, Nat.shiftLeft_eq]

theorem encode_init_toNat (polb : Bool) (cnt : Byte) :
    (encode (.init polb cnt)).toNat = 0x1000 + polb.toNat * 256 + cnt.toNat := by
  change (0x1#4 ++ 0#3 ++ BitVec.ofBool polb ++ cnt : BitVec (4 + 3 + 1 + 8)).toNat = _
  simp only [append_toNat, BitVec.toNat_ofNat, BitVec.toNat_ofBool]
  omega

theorem encode_setDigit_toNat (pos : Nibble) (val : Byte) :
    (encode (.setDigit pos val)).toNat = 0x2000 + pos.toNat * 256 + val.toNat := by
  change (0x2#4 ++ pos ++ val : BitVec (4 + 4 + 8)).toNat = _
  simp only [append_toNat, BitVec.toNat_ofNat]
  omega

theorem encode_setDp_toNat (pos : Nibble) (on : Bool) :
    (encode (.setDp pos on)).toNat = 0x3000 + pos.toNat * 256 + on.toNat := by
  change (0x3#4 ++ pos ++ 0#7 ++ BitVec.ofBool on : BitVec (4 + 4 + 7 + 1)).toNat = _
  simp only [append_toNat, BitVec.toNat_ofNat, BitVec.toNat_ofBool]
  omega

theorem encode_setBrightness_toNat (pct : Byte) : (encode (.setBrightness pct)).toNat = 0x5000 + pct.toNat := by
  change (0x5#4 ++ 0#4 ++ pct : BitVec (4 + 4 + 8)).toNat = _
  simp only [append_toNat, BitVec.toNat_ofNat]
  omega

theorem encode_lock_toNat (l : Bool) : (encode (.lock l)).toNat = 0x7000 + l.toNat := by
  cases l <;> decide

theorem encode_reserved_toNat (op : Nibble) : (encode (.reserved op)).toNat = op.toNat * 4096 := by
  change (op ++ 0#12 : BitVec (4 + 12)).toNat = _
  simp only [append_toNat, BitVec.toNat_ofNat]
  omega

theorem fieldOp_toNat (w : CmdWord) : (fieldOp w).toNat = w.toNat / 4096 := by
  have : w.toNat < 65536 := w.isLt
  simp only [fieldOp, BitVec.extractLsb'_toNat, Nat.shiftRight_eq_div_pow]
  omega

theorem fieldPos_toNat (w : CmdWord) : (fieldPos w).toNat = w.toNat / 256 % 16 := by
  simp only [fieldPos, BitVec.extractLsb'_toNat, Nat.shiftRight_eq_div_pow]

theorem fieldByte_toNat (w : CmdWord) : (fieldByte w).toNat = w.toNat % 256 := by
  simp only [fieldByte, BitVec.extractLsb'_toNat, Nat.shiftRight_eq_div_pow]
  omega

end Sys2Proof
end

