-- ==== Sys2Proof/Laws/State.lean ====
section
/-! SUPPORT. What each named update of the state does to each field: one lemma a field and update, true by rfl. -/

namespace Sys2Proof.Machine

section
variable (s : State)

@[simp] theorem State.writeDigit_cfg (p : Nibble) (v : Byte) : (s.writeDigit p v).cfg = s.cfg := rfl
@[simp] theorem State.writeDigit_pol (p : Nibble) (v : Byte) : (s.writeDigit p v).pol = s.pol := rfl
@[simp] theorem State.writeDigit_ndig (p : Nibble) (v : Byte) : (s.writeDigit p v).ndig = s.ndig := rfl
@[simp] theorem State.writeDigit_buf (p : Nibble) (v : Byte) : (s.writeDigit p v).buf = s.buf.setIfInBounds p.toNat v := rfl
@[simp] theorem State.writeDigit_dpm (p : Nibble) (v : Byte) : (s.writeDigit p v).dpm = s.dpm := rfl
@[simp] theorem State.writeDigit_idx (p : Nibble) (v : Byte) : (s.writeDigit p v).idx = s.idx := rfl
@[simp] theorem State.writeDigit_bright (p : Nibble) (v : Byte) : (s.writeDigit p v).bright = s.bright := rfl
@[simp] theorem State.writeDigit_lock (p : Nibble) (v : Byte) : (s.writeDigit p v).lock = s.lock := rfl
@[simp] theorem State.writeDigit_rr (p : Nibble) (v : Byte) : (s.writeDigit p v).rr = s.rr := rfl
@[simp] theorem State.writeDigit_busy (p : Nibble) (v : Byte) : (s.writeDigit p v).busy = s.busy := rfl
@[simp] theorem State.writeDigit_sw (p : Nibble) (v : Byte) : (s.writeDigit p v).sw = s.sw := rfl
@[simp] theorem State.writeDigit_ph (p : Nibble) (v : Byte) : (s.writeDigit p v).ph = s.ph := rfl
@[simp] theorem State.writeDigit_tmr (p : Nibble) (v : Byte) : (s.writeDigit p v).tmr = s.tmr := rfl
@[simp] theorem State.writeDigit_data (p : Nibble) (v : Byte) : (s.writeDigit p v).data = s.data := rfl
@[simp] theorem State.writeDigit_clk (p : Nibble) (v : Byte) : (s.writeDigit p v).clk = s.clk := rfl
@[simp] theorem State.writeDigit_stb (p : Nibble) (v : Byte) : (s.writeDigit p v).stb = s.stb := rfl
@[simp] theorem State.writeDigit_chain (p : Nibble) (v : Byte) : (s.writeDigit p v).chain = s.chain := rfl
@[simp] theorem State.writeDigit_inputs (p : Nibble) (v : Byte) : (s.writeDigit p v).inputs = s.inputs := rfl
@[simp] theorem State.writeDigit_draws (p : Nibble) (v : Byte) : (s.writeDigit p v).draws = s.draws := rfl

@[simp] theorem State.writePoint_cfg (p : Nibble) (on : Bool) : (s.writePoint p on).cfg = s.cfg := rfl
@[simp] theorem State.writePoint_pol (p : Nibble) (on : Bool) : (s.writePoint p on).pol = s.pol := rfl
@[simp] theorem State.writePoint_ndig (p : Nibble) (on : Bool) : (s.writePoint p on).ndig = s.ndig := rfl
@[simp] theorem State.writePoint_buf (p : Nibble) (on : Bool) : (s.writePoint p on).buf = s.buf := rfl
@[simp] theorem State.writePoint_dpm (p : Nibble) (on : Bool) : (s.writePoint p on).dpm = putBit s.dpm p.toNat on := rfl
@[simp] theorem State.writePoint_idx (p : Nibble) (on : Bool) : (s.writePoint p on).idx = s.idx := rfl
@[simp] theorem State.writePoint_bright (p : Nibble) (on : Bool) : (s.writePoint p on).bright = s.bright := rfl
@[simp] theorem State.writePoint_lock (p : Nibble) (on : Bool) : (s.writePoint p on).lock = s.lock := rfl
@[simp] theorem State.writePoint_rr (p : Nibble) (on : Bool) : (s.writePoint p on).rr = s.rr := rfl
@[simp] theorem State.writePoint_busy (p : Nibble) (on : Bool) : (s.writePoint p on).busy = s.busy := rfl
@[simp] theorem State.writePoint_sw (p : Nibble) (on : Bool) : (s.writePoint p on).sw = s.sw := rfl
@[simp] theorem State.writePoint_ph (p : Nibble) (on : Bool) : (s.writePoint p on).ph = s.ph := rfl
@[simp] theorem State.writePoint_tmr (p : Nibble) (on : Bool) : (s.writePoint p on).tmr = s.tmr := rfl
@[simp] theorem State.writePoint_data (p : Nibble) (on : Bool) : (s.writePoint p on).data = s.data := rfl
@[simp] theorem State.writePoint_clk (p : Nibble) (on : Bool) : (s.writePoint p on).clk = s.clk := rfl
@[simp] theorem State.writePoint_stb (p : Nibble) (on : Bool) : (s.writePoint p on).stb = s.stb := rfl
@[simp] theorem State.writePoint_chain (p : Nibble) (on : Bool) : (s.writePoint p on).chain = s.chain := rfl
@[simp] theorem State.writePoint_inputs (p : Nibble) (on : Bool) : (s.writePoint p on).inputs = s.inputs := rfl
@[simp] theorem State.writePoint_draws (p : Nibble) (on : Bool) : (s.writePoint p on).draws = s.draws := rfl

@[simp] theorem State.blankAll_cfg : s.blankAll.cfg = s.cfg := rfl
@[simp] theorem State.blankAll_pol : s.blankAll.pol = s.pol := rfl
@[simp] theorem State.blankAll_ndig : s.blankAll.ndig = s.ndig := rfl
@[simp] theorem State.blankAll_buf : s.blankAll.buf = Vector.replicate 8 s.cfg.codeBlank := rfl
@[simp] theorem State.blankAll_dpm : s.blankAll.dpm = 0 := rfl
@[simp] theorem State.blankAll_idx : s.blankAll.idx = s.idx := rfl
@[simp] theorem State.blankAll_bright : s.blankAll.bright = s.bright := rfl
@[simp] theorem State.blankAll_lock : s.blankAll.lock = s.lock := rfl
@[simp] theorem State.blankAll_rr : s.blankAll.rr = s.rr := rfl
@[simp] theorem State.blankAll_busy : s.blankAll.busy = s.busy := rfl
@[simp] theorem State.blankAll_sw : s.blankAll.sw = s.sw := rfl
@[simp] theorem State.blankAll_ph : s.blankAll.ph = s.ph := rfl
@[simp] theorem State.blankAll_tmr : s.blankAll.tmr = s.tmr := rfl
@[simp] theorem State.blankAll_data : s.blankAll.data = s.data := rfl
@[simp] theorem State.blankAll_clk : s.blankAll.clk = s.clk := rfl
@[simp] theorem State.blankAll_stb : s.blankAll.stb = s.stb := rfl
@[simp] theorem State.blankAll_chain : s.blankAll.chain = s.chain := rfl
@[simp] theorem State.blankAll_inputs : s.blankAll.inputs = s.inputs := rfl
@[simp] theorem State.blankAll_draws : s.blankAll.draws = s.draws := rfl

@[simp] theorem State.configure_cfg (polb : Bool) (n : BitVec 4) : (s.configure polb n).cfg = s.cfg := rfl
@[simp] theorem State.configure_pol (polb : Bool) (n : BitVec 4) : (s.configure polb n).pol = polb := rfl
@[simp] theorem State.configure_ndig (polb : Bool) (n : BitVec 4) : (s.configure polb n).ndig = n := rfl
@[simp] theorem State.configure_buf (polb : Bool) (n : BitVec 4) : (s.configure polb n).buf = s.buf := rfl
@[simp] theorem State.configure_dpm (polb : Bool) (n : BitVec 4) : (s.configure polb n).dpm = s.dpm := rfl
@[simp] theorem State.configure_idx (polb : Bool) (n : BitVec 4) : (s.configure polb n).idx = s.idx := rfl
@[simp] theorem State.configure_bright (polb : Bool) (n : BitVec 4) : (s.configure polb n).bright = s.bright := rfl
@[simp] theorem State.configure_lock (polb : Bool) (n : BitVec 4) : (s.configure polb n).lock = s.lock := rfl
@[simp] theorem State.configure_rr (polb : Bool) (n : BitVec 4) : (s.configure polb n).rr = s.rr := rfl
@[simp] theorem State.configure_busy (polb : Bool) (n : BitVec 4) : (s.configure polb n).busy = s.busy := rfl
@[simp] theorem State.configure_sw (polb : Bool) (n : BitVec 4) : (s.configure polb n).sw = s.sw := rfl
@[simp] theorem State.configure_ph (polb : Bool) (n : BitVec 4) : (s.configure polb n).ph = s.ph := rfl
@[simp] theorem State.configure_tmr (polb : Bool) (n : BitVec 4) : (s.configure polb n).tmr = s.tmr := rfl
@[simp] theorem State.configure_data (polb : Bool) (n : BitVec 4) : (s.configure polb n).data = s.data := rfl
@[simp] theorem State.configure_clk (polb : Bool) (n : BitVec 4) : (s.configure polb n).clk = s.clk := rfl
@[simp] theorem State.configure_stb (polb : Bool) (n : BitVec 4) : (s.configure polb n).stb = s.stb := rfl
@[simp] theorem State.configure_chain (polb : Bool) (n : BitVec 4) : (s.configure polb n).chain = s.chain := rfl
@[simp] theorem State.configure_inputs (polb : Bool) (n : BitVec 4) : (s.configure polb n).inputs = s.inputs := rfl
@[simp] theorem State.configure_draws (polb : Bool) (n : BitVec 4) : (s.configure polb n).draws = s.draws := rfl

@[simp] theorem State.rewind_cfg : s.rewind.cfg = s.cfg := rfl
@[simp] theorem State.rewind_pol : s.rewind.pol = s.pol := rfl
@[simp] theorem State.rewind_ndig : s.rewind.ndig = s.ndig := rfl
@[simp] theorem State.rewind_buf : s.rewind.buf = s.buf := rfl
@[simp] theorem State.rewind_dpm : s.rewind.dpm = s.dpm := rfl
@[simp] theorem State.rewind_idx : s.rewind.idx = 0 := rfl
@[simp] theorem State.rewind_bright : s.rewind.bright = s.bright := rfl
@[simp] theorem State.rewind_lock : s.rewind.lock = s.lock := rfl
@[simp] theorem State.rewind_rr : s.rewind.rr = s.rr := rfl
@[simp] theorem State.rewind_busy : s.rewind.busy = s.busy := rfl
@[simp] theorem State.rewind_sw : s.rewind.sw = s.sw := rfl
@[simp] theorem State.rewind_ph : s.rewind.ph = s.ph := rfl
@[simp] theorem State.rewind_tmr : s.rewind.tmr = s.tmr := rfl
@[simp] theorem State.rewind_data : s.rewind.data = s.data := rfl
@[simp] theorem State.rewind_clk : s.rewind.clk = s.clk := rfl
@[simp] theorem State.rewind_stb : s.rewind.stb = s.stb := rfl
@[simp] theorem State.rewind_chain : s.rewind.chain = s.chain := rfl
@[simp] theorem State.rewind_inputs : s.rewind.inputs = s.inputs := rfl
@[simp] theorem State.rewind_draws : s.rewind.draws = s.draws := rfl

@[simp] theorem State.setBright_cfg (v : BitVec 7) : (s.setBright v).cfg = s.cfg := rfl
@[simp] theorem State.setBright_pol (v : BitVec 7) : (s.setBright v).pol = s.pol := rfl
@[simp] theorem State.setBright_ndig (v : BitVec 7) : (s.setBright v).ndig = s.ndig := rfl
@[simp] theorem State.setBright_buf (v : BitVec 7) : (s.setBright v).buf = s.buf := rfl
@[simp] theorem State.setBright_dpm (v : BitVec 7) : (s.setBright v).dpm = s.dpm := rfl
@[simp] theorem State.setBright_idx (v : BitVec 7) : (s.setBright v).idx = s.idx := rfl
@[simp] theorem State.setBright_bright (v : BitVec 7) : (s.setBright v).bright = v := rfl
@[simp] theorem State.setBright_lock (v : BitVec 7) : (s.setBright v).lock = s.lock := rfl
@[simp] theorem State.setBright_rr (v : BitVec 7) : (s.setBright v).rr = s.rr := rfl
@[simp] theorem State.setBright_busy (v : BitVec 7) : (s.setBright v).busy = s.busy := rfl
@[simp] theorem State.setBright_sw (v : BitVec 7) : (s.setBright v).sw = s.sw := rfl
@[simp] theorem State.setBright_ph (v : BitVec 7) : (s.setBright v).ph = s.ph := rfl
@[simp] theorem State.setBright_tmr (v : BitVec 7) : (s.setBright v).tmr = s.tmr := rfl
@[simp] theorem State.setBright_data (v : BitVec 7) : (s.setBright v).data = s.data := rfl
@[simp] theorem State.setBright_clk (v : BitVec 7) : (s.setBright v).clk = s.clk := rfl
@[simp] theorem State.setBright_stb (v : BitVec 7) : (s.setBright v).stb = s.stb := rfl
@[simp] theorem State.setBright_chain (v : BitVec 7) : (s.setBright v).chain = s.chain := rfl
@[simp] theorem State.setBright_inputs (v : BitVec 7) : (s.setBright v).inputs = s.inputs := rfl
@[simp] theorem State.setBright_draws (v : BitVec 7) : (s.setBright v).draws = s.draws := rfl

@[simp] theorem State.setLock_cfg (l : Bool) : (s.setLock l).cfg = s.cfg := rfl
@[simp] theorem State.setLock_pol (l : Bool) : (s.setLock l).pol = s.pol := rfl
@[simp] theorem State.setLock_ndig (l : Bool) : (s.setLock l).ndig = s.ndig := rfl
@[simp] theorem State.setLock_buf (l : Bool) : (s.setLock l).buf = s.buf := rfl
@[simp] theorem State.setLock_dpm (l : Bool) : (s.setLock l).dpm = s.dpm := rfl
@[simp] theorem State.setLock_idx (l : Bool) : (s.setLock l).idx = s.idx := rfl
@[simp] theorem State.setLock_bright (l : Bool) : (s.setLock l).bright = s.bright := rfl
@[simp] theorem State.setLock_lock (l : Bool) : (s.setLock l).lock = l := rfl
@[simp] theorem State.setLock_rr (l : Bool) : (s.setLock l).rr = s.rr := rfl
@[simp] theorem State.setLock_busy (l : Bool) : (s.setLock l).busy = s.busy := rfl
@[simp] theorem State.setLock_sw (l : Bool) : (s.setLock l).sw = s.sw := rfl
@[simp] theorem State.setLock_ph (l : Bool) : (s.setLock l).ph = s.ph := rfl
@[simp] theorem State.setLock_tmr (l : Bool) : (s.setLock l).tmr = s.tmr := rfl
@[simp] theorem State.setLock_data (l : Bool) : (s.setLock l).data = s.data := rfl
@[simp] theorem State.setLock_clk (l : Bool) : (s.setLock l).clk = s.clk := rfl
@[simp] theorem State.setLock_stb (l : Bool) : (s.setLock l).stb = s.stb := rfl
@[simp] theorem State.setLock_chain (l : Bool) : (s.setLock l).chain = s.chain := rfl
@[simp] theorem State.setLock_inputs (l : Bool) : (s.setLock l).inputs = s.inputs := rfl
@[simp] theorem State.setLock_draws (l : Bool) : (s.setLock l).draws = s.draws := rfl

@[simp] theorem State.setTurn_cfg (p : Port) : (s.setTurn p).cfg = s.cfg := rfl
@[simp] theorem State.setTurn_pol (p : Port) : (s.setTurn p).pol = s.pol := rfl
@[simp] theorem State.setTurn_ndig (p : Port) : (s.setTurn p).ndig = s.ndig := rfl
@[simp] theorem State.setTurn_buf (p : Port) : (s.setTurn p).buf = s.buf := rfl
@[simp] theorem State.setTurn_dpm (p : Port) : (s.setTurn p).dpm = s.dpm := rfl
@[simp] theorem State.setTurn_idx (p : Port) : (s.setTurn p).idx = s.idx := rfl
@[simp] theorem State.setTurn_bright (p : Port) : (s.setTurn p).bright = s.bright := rfl
@[simp] theorem State.setTurn_lock (p : Port) : (s.setTurn p).lock = s.lock := rfl
@[simp] theorem State.setTurn_rr (p : Port) : (s.setTurn p).rr = p := rfl
@[simp] theorem State.setTurn_busy (p : Port) : (s.setTurn p).busy = s.busy := rfl
@[simp] theorem State.setTurn_sw (p : Port) : (s.setTurn p).sw = s.sw := rfl
@[simp] theorem State.setTurn_ph (p : Port) : (s.setTurn p).ph = s.ph := rfl
@[simp] theorem State.setTurn_tmr (p : Port) : (s.setTurn p).tmr = s.tmr := rfl
@[simp] theorem State.setTurn_data (p : Port) : (s.setTurn p).data = s.data := rfl
@[simp] theorem State.setTurn_clk (p : Port) : (s.setTurn p).clk = s.clk := rfl
@[simp] theorem State.setTurn_stb (p : Port) : (s.setTurn p).stb = s.stb := rfl
@[simp] theorem State.setTurn_chain (p : Port) : (s.setTurn p).chain = s.chain := rfl
@[simp] theorem State.setTurn_inputs (p : Port) : (s.setTurn p).inputs = s.inputs := rfl
@[simp] theorem State.setTurn_draws (p : Port) : (s.setTurn p).draws = s.draws := rfl

@[simp] theorem State.startFrame_cfg (w : FrameWord) : (s.startFrame w).cfg = s.cfg := rfl
@[simp] theorem State.startFrame_pol (w : FrameWord) : (s.startFrame w).pol = s.pol := rfl
@[simp] theorem State.startFrame_ndig (w : FrameWord) : (s.startFrame w).ndig = s.ndig := rfl
@[simp] theorem State.startFrame_buf (w : FrameWord) : (s.startFrame w).buf = s.buf := rfl
@[simp] theorem State.startFrame_dpm (w : FrameWord) : (s.startFrame w).dpm = s.dpm := rfl
@[simp] theorem State.startFrame_idx (w : FrameWord) : (s.startFrame w).idx = s.idx := rfl
@[simp] theorem State.startFrame_bright (w : FrameWord) : (s.startFrame w).bright = s.bright := rfl
@[simp] theorem State.startFrame_lock (w : FrameWord) : (s.startFrame w).lock = s.lock := rfl
@[simp] theorem State.startFrame_rr (w : FrameWord) : (s.startFrame w).rr = s.rr := rfl
@[simp] theorem State.startFrame_busy (w : FrameWord) : (s.startFrame w).busy = true := rfl
@[simp] theorem State.startFrame_sw (w : FrameWord) : (s.startFrame w).sw = w := rfl
@[simp] theorem State.startFrame_ph (w : FrameWord) : (s.startFrame w).ph = 0 := rfl
@[simp] theorem State.startFrame_tmr (w : FrameWord) : (s.startFrame w).tmr = 0 := rfl
@[simp] theorem State.startFrame_data (w : FrameWord) : (s.startFrame w).data = s.data := rfl
@[simp] theorem State.startFrame_clk (w : FrameWord) : (s.startFrame w).clk = s.clk := rfl
@[simp] theorem State.startFrame_stb (w : FrameWord) : (s.startFrame w).stb = s.stb := rfl
@[simp] theorem State.startFrame_chain (w : FrameWord) : (s.startFrame w).chain = s.chain := rfl
@[simp] theorem State.startFrame_inputs (w : FrameWord) : (s.startFrame w).inputs = s.inputs := rfl
@[simp] theorem State.startFrame_draws (w : FrameWord) : (s.startFrame w).draws = s.draws := rfl

@[simp] theorem State.setLines_cfg (l : Lines) : (s.setLines l).cfg = s.cfg := rfl
@[simp] theorem State.setLines_pol (l : Lines) : (s.setLines l).pol = s.pol := rfl
@[simp] theorem State.setLines_ndig (l : Lines) : (s.setLines l).ndig = s.ndig := rfl
@[simp] theorem State.setLines_buf (l : Lines) : (s.setLines l).buf = s.buf := rfl
@[simp] theorem State.setLines_dpm (l : Lines) : (s.setLines l).dpm = s.dpm := rfl
@[simp] theorem State.setLines_idx (l : Lines) : (s.setLines l).idx = s.idx := rfl
@[simp] theorem State.setLines_bright (l : Lines) : (s.setLines l).bright = s.bright := rfl
@[simp] theorem State.setLines_lock (l : Lines) : (s.setLines l).lock = s.lock := rfl
@[simp] theorem State.setLines_rr (l : Lines) : (s.setLines l).rr = s.rr := rfl
@[simp] theorem State.setLines_busy (l : Lines) : (s.setLines l).busy = s.busy := rfl
@[simp] theorem State.setLines_sw (l : Lines) : (s.setLines l).sw = s.sw := rfl
@[simp] theorem State.setLines_ph (l : Lines) : (s.setLines l).ph = s.ph := rfl
@[simp] theorem State.setLines_tmr (l : Lines) : (s.setLines l).tmr = s.tmr := rfl
@[simp] theorem State.setLines_data (l : Lines) : (s.setLines l).data = l.data := rfl
@[simp] theorem State.setLines_clk (l : Lines) : (s.setLines l).clk = l.clk := rfl
@[simp] theorem State.setLines_stb (l : Lines) : (s.setLines l).stb = l.stb := rfl
@[simp] theorem State.setLines_chain (l : Lines) : (s.setLines l).chain = s.chain := rfl
@[simp] theorem State.setLines_inputs (l : Lines) : (s.setLines l).inputs = s.inputs := rfl
@[simp] theorem State.setLines_draws (l : Lines) : (s.setLines l).draws = s.draws := rfl

@[simp] theorem State.nextPhase_cfg : s.nextPhase.cfg = s.cfg := rfl
@[simp] theorem State.nextPhase_pol : s.nextPhase.pol = s.pol := rfl
@[simp] theorem State.nextPhase_ndig : s.nextPhase.ndig = s.ndig := rfl
@[simp] theorem State.nextPhase_buf : s.nextPhase.buf = s.buf := rfl
@[simp] theorem State.nextPhase_dpm : s.nextPhase.dpm = s.dpm := rfl
@[simp] theorem State.nextPhase_idx : s.nextPhase.idx = s.idx := rfl
@[simp] theorem State.nextPhase_bright : s.nextPhase.bright = s.bright := rfl
@[simp] theorem State.nextPhase_lock : s.nextPhase.lock = s.lock := rfl
@[simp] theorem State.nextPhase_rr : s.nextPhase.rr = s.rr := rfl
@[simp] theorem State.nextPhase_busy : s.nextPhase.busy = s.busy := rfl
@[simp] theorem State.nextPhase_sw : s.nextPhase.sw = s.sw := rfl
@[simp] theorem State.nextPhase_ph : s.nextPhase.ph = s.ph + 1 := rfl
@[simp] theorem State.nextPhase_tmr : s.nextPhase.tmr = s.cfg.phaseCycles - 1 := rfl
@[simp] theorem State.nextPhase_data : s.nextPhase.data = s.data := rfl
@[simp] theorem State.nextPhase_clk : s.nextPhase.clk = s.clk := rfl
@[simp] theorem State.nextPhase_stb : s.nextPhase.stb = s.stb := rfl
@[simp] theorem State.nextPhase_chain : s.nextPhase.chain = s.chain := rfl
@[simp] theorem State.nextPhase_inputs : s.nextPhase.inputs = s.inputs := rfl
@[simp] theorem State.nextPhase_draws : s.nextPhase.draws = s.draws := rfl

@[simp] theorem State.countDown_cfg : s.countDown.cfg = s.cfg := rfl
@[simp] theorem State.countDown_pol : s.countDown.pol = s.pol := rfl
@[simp] theorem State.countDown_ndig : s.countDown.ndig = s.ndig := rfl
@[simp] theorem State.countDown_buf : s.countDown.buf = s.buf := rfl
@[simp] theorem State.countDown_dpm : s.countDown.dpm = s.dpm := rfl
@[simp] theorem State.countDown_idx : s.countDown.idx = s.idx := rfl
@[simp] theorem State.countDown_bright : s.countDown.bright = s.bright := rfl
@[simp] theorem State.countDown_lock : s.countDown.lock = s.lock := rfl
@[simp] theorem State.countDown_rr : s.countDown.rr = s.rr := rfl
@[simp] theorem State.countDown_busy : s.countDown.busy = s.busy := rfl
@[simp] theorem State.countDown_sw : s.countDown.sw = s.sw := rfl
@[simp] theorem State.countDown_ph : s.countDown.ph = s.ph := rfl
@[simp] theorem State.countDown_tmr : s.countDown.tmr = s.tmr - 1 := rfl
@[simp] theorem State.countDown_data : s.countDown.data = s.data := rfl
@[simp] theorem State.countDown_clk : s.countDown.clk = s.clk := rfl
@[simp] theorem State.countDown_stb : s.countDown.stb = s.stb := rfl
@[simp] theorem State.countDown_chain : s.countDown.chain = s.chain := rfl
@[simp] theorem State.countDown_inputs : s.countDown.inputs = s.inputs := rfl
@[simp] theorem State.countDown_draws : s.countDown.draws = s.draws := rfl

@[simp] theorem State.completeFrame_cfg : s.completeFrame.cfg = s.cfg := rfl
@[simp] theorem State.completeFrame_pol : s.completeFrame.pol = s.pol := rfl
@[simp] theorem State.completeFrame_ndig : s.completeFrame.ndig = s.ndig := rfl
@[simp] theorem State.completeFrame_buf : s.completeFrame.buf = s.buf := rfl
@[simp] theorem State.completeFrame_dpm : s.completeFrame.dpm = s.dpm := rfl
@[simp] theorem State.completeFrame_idx : s.completeFrame.idx = nextIndex s.idx s.ndig := rfl
@[simp] theorem State.completeFrame_bright : s.completeFrame.bright = s.bright := rfl
@[simp] theorem State.completeFrame_lock : s.completeFrame.lock = s.lock := rfl
@[simp] theorem State.completeFrame_rr : s.completeFrame.rr = s.rr := rfl
@[simp] theorem State.completeFrame_busy : s.completeFrame.busy = false := rfl
@[simp] theorem State.completeFrame_sw : s.completeFrame.sw = s.sw := rfl
@[simp] theorem State.completeFrame_ph : s.completeFrame.ph = 0 := rfl
@[simp] theorem State.completeFrame_tmr : s.completeFrame.tmr = 0 := rfl
@[simp] theorem State.completeFrame_data : s.completeFrame.data = s.data := rfl
@[simp] theorem State.completeFrame_clk : s.completeFrame.clk = s.clk := rfl
@[simp] theorem State.completeFrame_stb : s.completeFrame.stb = s.stb := rfl
@[simp] theorem State.completeFrame_chain : s.completeFrame.chain = s.chain := rfl
@[simp] theorem State.completeFrame_inputs : s.completeFrame.inputs = s.inputs := rfl
@[simp] theorem State.completeFrame_draws : s.completeFrame.draws = s.draws := rfl

@[simp] theorem State.nextCycle_cfg : s.nextCycle.cfg = s.cfg := rfl
@[simp] theorem State.nextCycle_pol : s.nextCycle.pol = s.pol := rfl
@[simp] theorem State.nextCycle_ndig : s.nextCycle.ndig = s.ndig := rfl
@[simp] theorem State.nextCycle_buf : s.nextCycle.buf = s.buf := rfl
@[simp] theorem State.nextCycle_dpm : s.nextCycle.dpm = s.dpm := rfl
@[simp] theorem State.nextCycle_idx : s.nextCycle.idx = s.idx := rfl
@[simp] theorem State.nextCycle_bright : s.nextCycle.bright = s.bright := rfl
@[simp] theorem State.nextCycle_lock : s.nextCycle.lock = s.lock := rfl
@[simp] theorem State.nextCycle_rr : s.nextCycle.rr = s.rr := rfl
@[simp] theorem State.nextCycle_busy : s.nextCycle.busy = s.busy := rfl
@[simp] theorem State.nextCycle_sw : s.nextCycle.sw = s.sw := rfl
@[simp] theorem State.nextCycle_ph : s.nextCycle.ph = s.ph := rfl
@[simp] theorem State.nextCycle_tmr : s.nextCycle.tmr = s.tmr := rfl
@[simp] theorem State.nextCycle_data : s.nextCycle.data = s.data := rfl
@[simp] theorem State.nextCycle_clk : s.nextCycle.clk = s.clk := rfl
@[simp] theorem State.nextCycle_stb : s.nextCycle.stb = s.stb := rfl
@[simp] theorem State.nextCycle_chain : s.nextCycle.chain = s.chain := rfl
@[simp] theorem State.nextCycle_inputs : s.nextCycle.inputs = s.inputs.tail := rfl
@[simp] theorem State.nextCycle_draws : s.nextCycle.draws = s.draws := rfl

@[simp] theorem State.resetCore_cfg : s.resetCore.cfg = s.cfg := rfl
@[simp] theorem State.resetCore_pol : s.resetCore.pol = false := rfl
@[simp] theorem State.resetCore_ndig : s.resetCore.ndig = 0 := rfl
@[simp] theorem State.resetCore_buf : s.resetCore.buf = Vector.replicate 8 s.cfg.codeBlank := rfl
@[simp] theorem State.resetCore_dpm : s.resetCore.dpm = 0 := rfl
@[simp] theorem State.resetCore_idx : s.resetCore.idx = 0 := rfl
@[simp] theorem State.resetCore_bright : s.resetCore.bright = 100 := rfl
@[simp] theorem State.resetCore_lock : s.resetCore.lock = false := rfl
@[simp] theorem State.resetCore_rr : s.resetCore.rr = .tick := rfl
@[simp] theorem State.resetCore_busy : s.resetCore.busy = false := rfl
@[simp] theorem State.resetCore_sw : s.resetCore.sw = 0 := rfl
@[simp] theorem State.resetCore_ph : s.resetCore.ph = 0 := rfl
@[simp] theorem State.resetCore_tmr : s.resetCore.tmr = 0 := rfl
@[simp] theorem State.resetCore_data : s.resetCore.data = false := rfl
@[simp] theorem State.resetCore_clk : s.resetCore.clk = false := rfl
@[simp] theorem State.resetCore_stb : s.resetCore.stb = false := rfl
@[simp] theorem State.resetCore_chain : s.resetCore.chain = s.chain := rfl
@[simp] theorem State.resetCore_inputs : s.resetCore.inputs = s.inputs := rfl
@[simp] theorem State.resetCore_draws : s.resetCore.draws = s.draws := rfl

@[simp] theorem State.sampleChain_cfg (b : Lines) : (s.sampleChain b).cfg = s.cfg := rfl
@[simp] theorem State.sampleChain_pol (b : Lines) : (s.sampleChain b).pol = s.pol := rfl
@[simp] theorem State.sampleChain_ndig (b : Lines) : (s.sampleChain b).ndig = s.ndig := rfl
@[simp] theorem State.sampleChain_buf (b : Lines) : (s.sampleChain b).buf = s.buf := rfl
@[simp] theorem State.sampleChain_dpm (b : Lines) : (s.sampleChain b).dpm = s.dpm := rfl
@[simp] theorem State.sampleChain_idx (b : Lines) : (s.sampleChain b).idx = s.idx := rfl
@[simp] theorem State.sampleChain_bright (b : Lines) : (s.sampleChain b).bright = s.bright := rfl
@[simp] theorem State.sampleChain_lock (b : Lines) : (s.sampleChain b).lock = s.lock := rfl
@[simp] theorem State.sampleChain_rr (b : Lines) : (s.sampleChain b).rr = s.rr := rfl
@[simp] theorem State.sampleChain_busy (b : Lines) : (s.sampleChain b).busy = s.busy := rfl
@[simp] theorem State.sampleChain_sw (b : Lines) : (s.sampleChain b).sw = s.sw := rfl
@[simp] theorem State.sampleChain_ph (b : Lines) : (s.sampleChain b).ph = s.ph := rfl
@[simp] theorem State.sampleChain_tmr (b : Lines) : (s.sampleChain b).tmr = s.tmr := rfl
@[simp] theorem State.sampleChain_data (b : Lines) : (s.sampleChain b).data = s.data := rfl
@[simp] theorem State.sampleChain_clk (b : Lines) : (s.sampleChain b).clk = s.clk := rfl
@[simp] theorem State.sampleChain_stb (b : Lines) : (s.sampleChain b).stb = s.stb := rfl
@[simp] theorem State.sampleChain_chain (b : Lines) : (s.sampleChain b).chain = s.chain.sample s.cfg b s.lines := rfl
@[simp] theorem State.sampleChain_inputs (b : Lines) : (s.sampleChain b).inputs = s.inputs := rfl
@[simp] theorem State.sampleChain_draws (b : Lines) : (s.sampleChain b).draws = s.draws := rfl

@[simp] theorem State.loseStages_cfg : s.loseStages.cfg = s.cfg := rfl
@[simp] theorem State.loseStages_pol : s.loseStages.pol = s.pol := rfl
@[simp] theorem State.loseStages_ndig : s.loseStages.ndig = s.ndig := rfl
@[simp] theorem State.loseStages_buf : s.loseStages.buf = s.buf := rfl
@[simp] theorem State.loseStages_dpm : s.loseStages.dpm = s.dpm := rfl
@[simp] theorem State.loseStages_idx : s.loseStages.idx = s.idx := rfl
@[simp] theorem State.loseStages_bright : s.loseStages.bright = s.bright := rfl
@[simp] theorem State.loseStages_lock : s.loseStages.lock = s.lock := rfl
@[simp] theorem State.loseStages_rr : s.loseStages.rr = s.rr := rfl
@[simp] theorem State.loseStages_busy : s.loseStages.busy = s.busy := rfl
@[simp] theorem State.loseStages_sw : s.loseStages.sw = s.sw := rfl
@[simp] theorem State.loseStages_ph : s.loseStages.ph = s.ph := rfl
@[simp] theorem State.loseStages_tmr : s.loseStages.tmr = s.tmr := rfl
@[simp] theorem State.loseStages_data : s.loseStages.data = s.data := rfl
@[simp] theorem State.loseStages_clk : s.loseStages.clk = s.clk := rfl
@[simp] theorem State.loseStages_stb : s.loseStages.stb = s.stb := rfl
@[simp] theorem State.loseStages_chain : s.loseStages.chain = { s.chain with sr := Config.chainStagesAfterReset s.draws } := rfl
@[simp] theorem State.loseStages_inputs : s.loseStages.inputs = s.inputs := rfl
@[simp] theorem State.loseStages_draws : s.loseStages.draws = s.draws + 1 := rfl

end

end Sys2Proof.Machine
end

