-- ==== Sys2Proof/Laws/Ops.lean ====
section
/-! SUPPORT. One lemma for what each shared operation can do: the parameters' legality, the operand forms, the buffer
and mask writes, the index, the line events and the frame engine. -/

namespace Sys2Proof

/-- The parts of `Config.wf`, by name. -/
theorem Config.wf_iff (c : Config) : c.wf = true ↔
    c.maxDigits = 8 ∧ c.codeBlank = 16 ∧ c.brightMax = 100 ∧ c.cmdWidth = cmdBits ∧ c.tPulseMinPs = 1000000 ∧
    c.segBit.oneToOne = true ∧ c.glyph.noPoint = true ∧ 15 < c.codeDash.toNat ∧ c.codeDash ≠ c.codeBlank ∧
    1 ≤ c.phaseCycles ∧ c.tPulseMinPs ≤ c.phaseCycles * c.tClkPs ∧ 16 ≤ c.refreshHzMin := by
  simp [Config.wf, and_assoc]

theorem Config.wf_phaseCycles {c : Config} (h : c.wf = true) : 1 ≤ c.phaseCycles :=
  ((c.wf_iff).1 h).2.2.2.2.2.2.2.2.2.1

theorem Config.wf_maxDigits {c : Config} (h : c.wf = true) : c.maxDigits = 8 := ((c.wf_iff).1 h).1

theorem Config.wf_codeBlank {c : Config} (h : c.wf = true) : c.codeBlank = 16 := ((c.wf_iff).1 h).2.1

theorem Config.wf_brightMax {c : Config} (h : c.wf = true) : c.brightMax = 100 := ((c.wf_iff).1 h).2.2.1

namespace Machine

theorem saturateCount_toNat {c : Config} (h : c.maxDigits ≤ 15) (cnt : Byte) :
    (saturateCount c cnt).toNat = min cnt.toNat c.maxDigits := by
  simp only [saturateCount, BitVec.toNat_ofNat]
  omega

theorem saturatePercent_toNat {c : Config} (h : c.brightMax ≤ 127) (pct : Byte) :
    (saturatePercent c pct).toNat = min pct.toNat c.brightMax := by
  simp only [saturatePercent, BitVec.toNat_ofNat]
  omega

/-- A written mask bit: bit p takes the value, every other bit keeps its own. -/
theorem putBit_getLsbD (mask : Byte) (p : Nat) (on : Bool) (i : Nat) (hi : i < 8) :
    (putBit mask p on).getLsbD i = if i = p then on else mask.getLsbD i := by
  have hlt : p ≤ i → decide (i - p < 8) = true := fun _ => by simp; omega
  by_cases h : i = p
  · subst h
    cases on <;> simp [putBit, hi]
  · have : ¬ i < p → decide (i - p = 0) = false := fun hn => by simp; omega
    cases on <;> by_cases hp : i < p <;> simp [putBit, h, hi, hp, this]

/-- A written entry: position p takes the value, every other entry keeps its own. -/
theorem State.writeDigit_getElem (s : State) (p : Nibble) (v : Byte) (i : Nat) (hi : i < 8) :
    (s.writeDigit p v).buf[i] = if i = p.toNat then v else s.buf[i] := by
  simp only [State.writeDigit, Vector.getElem_setIfInBounds, eq_comm]

theorem nextIndex_val (i : Fin 8) (n : BitVec 4) (h0 : n ≠ 0) (h8 : n.toNat ≤ 8) :
    (nextIndex i n).val = (i.val + 1) % n.toNat := by
  have hpos : 0 < n.toNat := by
    rcases Nat.eq_zero_or_pos n.toNat with h | h
    · exact absurd (BitVec.eq_of_toNat_eq (by simpa using h)) h0
    · exact h
  have := Nat.mod_lt (i.val + 1) hpos
  simp only [nextIndex, Fin.ofNat]
  exact Nat.mod_eq_of_lt (by omega)

/-- What one cycle of the frame engine does (R143): nothing when idle; count down; an event and the next phase; or event
49 and completion. -/
theorem frameEngine_cases (s : State) :
    (s.busy = false ∧ frameEngine s = s) ∨
    (s.busy = true ∧ s.tmr ≠ 0 ∧ frameEngine s = s.countDown) ∨
    (s.busy = true ∧ s.tmr = 0 ∧ s.ph ≠ 49 ∧ frameEngine s = (performEvent s).nextPhase) ∨
    (s.busy = true ∧ s.tmr = 0 ∧ s.ph = 49 ∧ frameEngine s = (performEvent s).completeFrame) := by
  cases hb : s.busy <;> by_cases ht : s.tmr = 0 <;> by_cases hp : s.ph = 49 <;> simp [frameEngine, hb, ht, hp]

/-- The frame engine writes the lines, PH, TMR, BUSY and IDX and nothing else (R224). -/
theorem frameEngine_keeps (s : State) :
    (frameEngine s).cfg = s.cfg ∧ (frameEngine s).pol = s.pol ∧ (frameEngine s).ndig = s.ndig ∧
    (frameEngine s).buf = s.buf ∧ (frameEngine s).dpm = s.dpm ∧ (frameEngine s).bright = s.bright ∧
    (frameEngine s).lock = s.lock ∧ (frameEngine s).rr = s.rr ∧ (frameEngine s).sw = s.sw ∧
    (frameEngine s).chain = s.chain ∧ (frameEngine s).inputs = s.inputs ∧ (frameEngine s).draws = s.draws := by
  rcases frameEngine_cases s with ⟨-, h⟩ | ⟨-, -, h⟩ | ⟨-, -, -, h⟩ | ⟨-, -, -, h⟩ <;>
    simp [h, performEvent]

end Machine

end Sys2Proof
end

