-- ==== Sys2Proof/Laws/PerInstr.lean ====
section
/-! SUPPORT. Facts about every instruction as syntax, a lemma per constructor. Family Opcode: the word of a well-formed
instruction carries the opcode of its row in cmd[15:12] (R71, R73). -/

namespace Sys2Proof.Laws.Opcode

/-- The opcode field of the encoding is the instruction's opcode. -/
def Statement (i : Instr) : Prop := i.wf = true → fieldOp (encode i) = i.opcode

/-- The opcode field is fixed by the word as a number. -/
theorem of_toNat {i : Instr} (h : (encode i).toNat / 4096 = i.opcode.toNat) : Statement i :=
  fun _ => BitVec.eq_of_toNat_eq ((fieldOp_toNat _).trans h)

theorem nop : Statement .nop := of_toNat (by decide)

theorem init (polb : Bool) (cnt : Byte) : Statement (.init polb cnt) := of_toNat (by
  have := Bool.toNat_le polb
  rw [encode_init_toNat]; change _ = 1; omega)

theorem setDigit (pos : Nibble) (val : Byte) : Statement (.setDigit pos val) := of_toNat (by
  rw [encode_setDigit_toNat]; change _ = 2; omega)

theorem setDp (pos : Nibble) (on : Bool) : Statement (.setDp pos on) := of_toNat (by
  have := Bool.toNat_le on
  rw [encode_setDp_toNat]; change _ = 3; omega)

theorem clear : Statement .clear := of_toNat (by decide)

theorem setBrightness (pct : Byte) : Statement (.setBrightness pct) := of_toNat (by
  rw [encode_setBrightness_toNat]; change _ = 5; omega)

theorem tick : Statement .tick := of_toNat (by decide)

theorem lock (l : Bool) : Statement (.lock l) := of_toNat (by cases l <;> decide)

theorem reserved (op : Nibble) : Statement (.reserved op) := of_toNat (by
  rw [encode_reserved_toNat]; change _ = op.toNat; omega)

end Sys2Proof.Laws.Opcode
end

