-- ==== Sys2Proof/Laws/Step.lean ====
section
/-! SUPPORT. What a command, a grant and a step can do, said once: the inversion lemmas the proofs cite instead of
unfolding. -/

namespace Sys2Proof.Machine

/-- The next state of each command. -/
def effect : Instr → State → State
  | .nop, s => s
  | .init polb cnt, s => ((s.configure polb (saturateCount s.cfg cnt)).blankAll).rewind
  | .setDigit pos val, s => if validPosition s pos then s.writeDigit pos val else s
  | .setDp pos on, s => if validPosition s pos then s.writePoint pos on else s
  | .clear, s => s.blankAll
  | .setBrightness pct, s => s.setBright (saturatePercent s.cfg pct)
  | .tick, s => if s.ndig = 0 then s else s.startFrame s.snapshot
  | .lock l, s => s.setLock l
  | .reserved _, s => s

theorem exec_inv {i : Instr} {s t : State} (h : exec i s = .next t) : t = effect i s := by
  cases i <;> exact (Host.Outcome.next.inj h).symm

/-- No command writes the lines, the chain, RR, the parameters, the inputs or the draws (R190, R224). -/
theorem exec_keeps {i : Instr} {s t : State} (h : exec i s = .next t) :
    t.cfg = s.cfg ∧ t.lines = s.lines ∧ t.chain = s.chain ∧ t.rr = s.rr ∧ t.inputs = s.inputs ∧
    t.draws = s.draws := by
  rw [exec_inv h]
  cases i with
  | setDigit pos val => simp only [effect]; split <;> exact ⟨rfl, rfl, rfl, rfl, rfl, rfl⟩
  | setDp pos on => simp only [effect]; split <;> exact ⟨rfl, rfl, rfl, rfl, rfl, rfl⟩
  | tick => simp only [effect]; split <;> exact ⟨rfl, rfl, rfl, rfl, rfl, rfl⟩
  | _ => exact ⟨rfl, rfl, rfl, rfl, rfl, rfl⟩

theorem grant_none_of_rst {s : State} (h : s.now.rst = true) : grant s = none := by simp [grant, h]

/-- Who is granted is eligible, and outside a reset. -/
theorem grant_host_inv {s : State} (h : grant s = some .host) : s.now.rst = false ∧ eligibleHost s = true := by
  cases hr : s.now.rst <;> cases he : eligibleHost s <;> cases ht : eligibleTick s <;>
    simp_all [grant, contest]

theorem grant_tick_inv {s : State} (h : grant s = some .tick) : s.now.rst = false ∧ eligibleTick s = true := by
  cases hr : s.now.rst <;> cases he : eligibleHost s <;> cases ht : eligibleTick s <;>
    simp_all [grant, contest]

/-- Everything a step can do (R224, R340). -/
theorem step_inv {s t : State} (h : step s = .next t) :
    (s.now.rst = true ∧ t = resetCycle s) ∨
    (s.now.rst = false ∧ grant s = none ∧ t = (engineCycle s).sampleChain s.lines) ∨
    (s.now.rst = false ∧ ∃ p u, grant s = some p ∧ exec (decode (grantedWord s p)) (engineCycle s) = .next u ∧
      t = u.sampleChain s.lines) := by
  unfold step cycle at h
  split at h
  · exact .inl ⟨‹_›, (Host.Outcome.next.inj h).symm⟩
  · rename_i hr
    have hr : s.now.rst = false := by simpa using hr
    cases hg : grant s with
    | none =>
      simp only [hg, executeGrant] at h
      exact .inr (.inl ⟨hr, rfl, (Host.Outcome.next.inj h).symm⟩)
    | some p =>
      simp only [hg, executeGrant] at h
      split at h
      · rename_i u hu
        exact .inr (.inr ⟨hr, p, u, rfl, hu, (Host.Outcome.next.inj h).symm⟩)
      · cases h
      · cases h

/-- A reset cycle leaves the DDC's fields at their reset values; only the chain and the draws depend on what was in flight
(R340, R341, U4). -/
theorem resetCycle_eq (s : State) :
    resetCycle s = { s.nextCycle.resetCore with chain := (resetCycle s).chain, draws := (resetCycle s).draws } := by
  unfold resetCycle
  split <;> rfl

/-- The latched outputs of a reset cycle are what the chain's sampling gives, a frame in flight or not. -/
theorem resetCycle_latched (s : State) :
    (resetCycle s).chain.qn = (s.chain.sample s.cfg s.lines ⟨false, false, false⟩).qn ∧
    (resetCycle s).chain.qf = (s.chain.sample s.cfg s.lines ⟨false, false, false⟩).qf := by
  unfold resetCycle
  split <;> exact ⟨rfl, rfl⟩

/-- The stages of a reset cycle: free when a frame was in flight (U4), the chain's sampling otherwise. -/
theorem resetCycle_stages (s : State) :
    (resetCycle s).chain.sr =
      if s.busy then Config.chainStagesAfterReset s.draws
      else (s.chain.sample s.cfg s.lines ⟨false, false, false⟩).sr := by
  unfold resetCycle
  split <;> rfl

/-- A cycle in which no line changes leaves the chain alone (R151). -/
theorem Chain.sample_same (cfg : Config) (c : Chain) (l : Lines) : c.sample cfg l l = c := by
  cases hs : cfg.shiftEdge <;> cases hl : cfg.latchEdge <;> cases h1 : l.clk <;> cases h2 : l.stb <;>
    simp [Chain.sample, crosses, hs, hl, h1, h2]

end Sys2Proof.Machine
end

