-- ==== Sys2Proof/Tests/Slice0.lean ====
section
/-! SUPPORT. The model's own tests. Expected results are the spec's: R77 and 95_test_vectors.md (V, T, B, A, F and P
vectors by their names), or words written out from R71's bit patterns. Then a witness for the hypotheses of every
statement that has some. -/

namespace Sys2Proof.Tests

open Sys2Proof.Machine

/-! ### Well-formedness: the one check refuses an ill-formed term -/

theorem test_wf_refuses_reserved_opcode_7 : (Instr.reserved 0x7).wf = false := by decide

theorem test_wf_accepts_reserved_opcodes : (Instr.reserved 0x8).wf = true ∧ (Instr.reserved 0xF).wf = true := by decide

/-! ### Decoding words written out from R71's patterns, a word or two per constructor -/

theorem test_decode_nop : decode 0b0000111111111111 = .nop := by decide
theorem test_decode_init : decode 0b0001000100000100 = .init true 4 := by decide
theorem test_decode_init_ignored_bits : decode 0b0001111000001000 = .init false 8 := by decide
theorem test_decode_setDigit : decode 0b0010001000000111 = .setDigit 2 7 := by decide
theorem test_decode_setDp : decode 0b0011000111111110 = .setDp 1 false := by decide
theorem test_decode_clear : decode 0b0100000000000000 = .clear := by decide
theorem test_decode_setBrightness : decode 0b0101111110010110 = .setBrightness 150 := by decide
theorem test_decode_tick : decode 0b0110000000000000 = .tick := by decide
theorem test_decode_lock : decode 0b0111111111111111 = .lock true := by decide
theorem test_decode_reserved : decode 0b1001101010111100 = .reserved 9 := by decide
theorem test_decodeTableWord : decodeTableWord 16 0x2310 = some (.setDigit 3 16) := by decide

/-! ### States the tests start from -/

/-- P1's content with IDX 1 and the chain showing position 0: NDIG 4, BUF = [1,2,3,4,16,...], DPM 0x02. -/
def demo : State :=
  { State.reset with
    ndig := 4, buf := #v[1, 2, 3, 4, 16, 16, 16, 16], dpm := 0x02, idx := 1, chain := ⟨0x06FE, 0xFE, 0x06⟩ }

/-- The same with a frame in flight, its next event k, the lines and the chain as R142 and R151 leave them (P = 1). -/
def flying (k : Fin 50) (data clk stb : Bool) (sr : BitVec 16) : State :=
  { demo with busy := true, sw := 0xDBFD, ph := k, data := data, clk := clk, stb := stb, chain := ⟨sr, 0xFE, 0x06⟩ }

/-- Its completion in the coming cycle, and a tick-port request in the cycle after. -/
def completing : State := { flying 49 true false true 0xDBFD with inputs := [{}, { tickReq := true }] }

/-- One host word, alone, in the next cycle. -/
def host (s : State) (w : CmdWord) : State := { s with inputs := [{ cmdValid := true, cmd := w }] }

/-- A host word and a tick-port request together. -/
def both (s : State) (w : CmdWord) : State := { s with inputs := [{ cmdValid := true, cmd := w, tickReq := true }] }

/-- A tick-port request alone. -/
def tickOnly (s : State) : State := { s with inputs := [{ tickReq := true }] }

/-- What a test checks of the state after one cycle. -/
def after (s : State) (p : State → Bool) : Bool :=
  match step s with
  | .next t => p t
  | .fault _ => false
  | .refused _ => false

/-! ### Meanings, one cycle each -/

theorem test_nop_B20 : after (host demo 0x0FFF) (fun t => decide ({ t with inputs := [] } = demo)) = true := by decide
theorem test_init_B1 : after (host State.reset 0x1104) (fun t =>
    t.pol && t.ndig == 4 && t.buf.toList == List.replicate 8 16 && t.dpm == 0 && t.idx == 0) = true := by decide
theorem test_init_B5 : after (host { demo with idx := 3, bright := 30, lock := true } 0x1002) (fun t =>
    t.ndig == 2 && t.idx == 0 && t.buf[0] == 16 && t.dpm == 0 && t.bright == 30 && t.lock) = true := by decide
theorem test_setDigit_B7_B11 : after (host demo 0x23FF) (fun t =>
    t.buf.toList == [1, 2, 3, 255, 16, 16, 16, 16]) = true := by decide
theorem test_setDigit_B8 : after (host demo 0x2407) (fun t => t.buf == demo.buf) = true := by decide
theorem test_setDp_B12 : after (host demo 0x3301) (fun t => t.dpm == 0x0A) = true := by decide
theorem test_setDp_B13 : after (host { demo with dpm := 0x0A } 0x31FE) (fun t => t.dpm == 0x08) = true := by decide
theorem test_clear_B15 : after (host { demo with idx := 2 } 0x4000) (fun t =>
    t.buf.toList == List.replicate 8 16 && t.dpm == 0 && t.ndig == 4 && t.idx == 2) = true := by decide
theorem test_brightness_B16 : after (host demo 0x5032) (fun t => t.bright == 50) = true := by decide
theorem test_brightness_B17 : after (host demo 0x50FF) (fun t => t.bright == 100) = true := by decide
theorem test_tick_T4 : after (host demo 0x6000) (fun t =>
    t.sw == 0xDBFD && t.busy && t.ph == 0 && t.idx == 1) = true := by decide
theorem test_tick_T5 : after (tickOnly { demo with
    ndig := 2, idx := 0, buf := #v[200, 16, 16, 16, 16, 16, 16, 16], dpm := 0x01, pol := true }) (fun t =>
    t.sw == 0x7FFE) = true := by decide
theorem test_lock_B19 : after (host { demo with lock := true } 0x7000) (fun t => !t.lock) = true := by decide
theorem test_reserved_B20 : after (host demo 0x9ABC) (fun t => decide ({ t with inputs := [] } = demo)) = true := by
  decide

theorem test_withFetchWord_runs_first_after_reset :
    step (State.reset.withFetchWord 16 0x1104) = exec (.init true 4) State.reset := by rfl
theorem test_withFetchWord_runs_a_held_command : after ((flying 5 true true false 0).withFetchWord 16 0x1002) (fun t =>
    t.ndig == 2) = true := by decide

/-! ### The two encoders (V1, V2, R105, R124) -/

theorem test_segWire_V1 : [segWire {} 2 true true, segWire {} 8 true true, segWire {} 16 true false,
    segWire {} 17 false true, segWire {} 200 false true] = [0x24, 0x00, 0x80, 0xBF, 0xFF] := by decide
theorem test_selRom_V2 : [selRom 2 4, selRom 7 8, selRom 4 4, selRom 0 0, selRom 200 8] =
    [0xFB, 0x7F, 0xFF, 0xFF, 0xFF] := by decide

/-! ### The frame engine, the chain and reset (V3, V6, R144) -/

theorem test_event_0_drives_data : after (flying 0 false false false 0) (fun t => t.data && t.ph == 1) = true := by
  decide
theorem test_event_1_shifts : after (flying 1 true false false 0x8000) (fun t =>
    t.clk && t.chain.sr == 0x0001) = true := by decide
theorem test_event_48_latches : after (flying 48 true false false 0xDBFD) (fun t =>
    t.stb && t.chain.qf == 0xDB && t.chain.qn == 0xFD) = true := by decide
theorem test_event_49_completes : after (flying 49 true false true 0xDBFD) (fun t =>
    !t.stb && !t.busy && t.ph == 0 && t.idx == 2) = true := by decide
theorem test_index_wraps_T3 : nextIndex 2 3 = 0 := by decide
theorem test_reset_V6 : after { flying 20 false true false 0x0001 with inputs := [{ rst := true }] } (fun t =>
    !t.busy && t.lines == ⟨false, false, false⟩ && t.idx == 0 && t.chain.qn == 0xFE && t.chain.qf == 0x06 && t.draws == 1) = true := by
  decide

/-! ### The arbiter (A1-A9) -/

theorem test_arbiter_A1 : grant (both demo 0x2000) = some .tick ∧ turnAfter (both demo 0x2000) = .host := by decide
theorem test_arbiter_A2 : grant (both { demo with rr := .host } 0x2000) = some .host ∧
    turnAfter (both { demo with rr := .host } 0x2000) = .tick := by decide
theorem test_arbiter_A3_A4 : grant (both (flying 5 true true false 0) 0x2000) = some .host ∧
    grant (host (flying 5 true true false 0) 0x6000) = none := by decide
theorem test_arbiter_A5_A6 : grant (both { demo with lock := true } 0x6000) = some .host ∧
    grant (tickOnly { demo with lock := true }) = none := by decide
theorem test_arbiter_A8 : grant (tickOnly demo) = some .tick ∧ turnAfter (tickOnly demo) = .tick := by decide

/-! ### Outside the block: the formatter (F1, F4-F6, F10, F11) and the assembler (P1, R75) -/

theorem test_formatter_F1_F5_F6 :
    (setInteger { n := 4, leadingZerosDefault := false } 0 0 (some false)).digits = [16, 16, 16, 0] ∧
    setInteger { n := 4, leadingZerosDefault := false } 5 1 (some false) = ⟨[16, 16, 0, 5], 0x04⟩ ∧
    setInteger { n := 4, leadingZerosDefault := false, lzKeepDpDigit := false } 5 1 (some false) = ⟨[16, 16, 16, 5], 0x04⟩ := by decide
theorem test_formatter_F4_F8_F10_F11 :
    setInteger { n := 4, leadingZerosDefault := false } 385 1 (some false) = ⟨[16, 3, 8, 5], 0x04⟩ ∧
    setSigned signA { n := 4, leadingZerosDefault := false } (-45) 1 (some false) = ⟨[16, 16, 4, 5], 0x04⟩ ∧
    setFloat signA (fun _ _ _ => none) { n := 4, leadingZerosDefault := false } (.finite false 9 4) 1 =
      some ⟨[16, 16, 2, 3], 0x04⟩ ∧
    setChars { n := 4, leadingZerosDefault := false } ['-', '1', 'A', ' ', 'b'] = ⟨[17, 1, 10, 16], 0x00⟩ := by decide
theorem test_signA_keeps_the_point_R252 :
    (setSigned signA { n := 4, leadingZerosDefault := false } (-5) 3 none).mask = 0x01 := by decide
theorem test_setFloat_negative_rounding_to_zero_R253 :
    setFloat (fun _ m _ _ => ⟨[99, BitVec.ofNat 8 m], 0⟩) (fun _ _ _ => none)
      { n := 4, leadingZerosDefault := false } (.finite true 4 100) 1 = some ⟨[99, 0], 0⟩ := by decide
/-- A NONFINITE_POLICY can place the point at decimalPlaces, or leave the display as it is. -/
theorem test_setFloat_nonfinite_policy_sees_decimalPlaces_R253 :
    let h : FormatterSetup := { n := 4, leadingZerosDefault := false }
    let dashes : NonfinitePolicy := fun h _ d => some ⟨List.replicate h.n dashCode, pointMask (pointPosition h.n d)⟩
    setFloat signA dashes h (.infinite true) 1 = some ⟨[17, 17, 17, 17], 0x04⟩ ∧
    setFloat signA (fun _ _ _ => none) h .notANumber 1 = none := by decide
theorem test_assembler_line : assembleLine "SETD  3, 0x10   ; blank".toList = some [0x2310] ∧
    assembleLine "LOCK 2".toList = none := by decide

/-! ### Concrete sound states -/

theorem demo_legal : Legal demo where
  config := by decide
  count := by decide
  index := by decide
  indexUnconfigured := by decide
  unused := by decide
  idle := by decide
  inFlight := by decide
  bright := by decide
  timer := by decide
  firstEvent := by decide
  select := by decide

theorem demo_sound : Sound demo where
  legal := demo_legal
  lines := ⟨by decide, by decide, by decide, by decide⟩
  chain := ⟨fun h => absurd h (by decide), by decide⟩

/-- The inputs do not bear on soundness. -/
theorem sound_inputs {s : State} (h : Sound s) (l : List Inputs) : Sound { s with inputs := l } :=
  ⟨⟨h.legal.config, h.legal.count, h.legal.index, h.legal.indexUnconfigured, h.legal.unused, h.legal.idle,
    h.legal.inFlight, h.legal.bright, h.legal.timer, h.legal.firstEvent, h.legal.select⟩,
   ⟨h.lines.idle, h.lines.clk, h.lines.stb, h.lines.data⟩, ⟨h.chain.shifted, h.chain.latched⟩⟩

/-- The frame of T4 about to be latched: event 48 is next and all 16 bits are in the chain. -/
def strobing : State := flying 48 true false false 0xDBFD

theorem strobing_sound : Sound strobing where
  legal := ⟨by decide, by decide, by decide, by decide, by decide, by decide, by decide, by decide, by decide,
    by decide, by decide⟩
  lines := ⟨by decide, by decide, by decide, by decide⟩
  chain := ⟨fun _ => by decide, by decide⟩

/-! ### Witnesses: states and operands that meet each statement's hypotheses together -/

theorem witness_WorkedEncodings : demo.ndig.toNat ≤ 8 ∧ 1 < demo.ndig.toNat := by decide
theorem witness_DecodeEncodeRoundTrip : (Instr.reserved 0xF).wf = true ∧ (Instr.setDigit 15 255).wf = true := by decide
theorem witness_SegmentRomTable : 18 ≤ (255#8 : Byte).toNat ∧ 18 ≤ (18#8 : Byte).toNat := by decide
theorem witness_CanonicalPatternLightsTheGlyph :
    ({} : Config).wf = true ∧ Segment.G ≠ .DP ∧ 16 ≤ (16#8 : Byte).toNat ∧ (16#8 : Byte) ≠ ({} : Config).codeDash := by
  decide
theorem witness_PolarityComplements : canon {} 8 true = 0xFF := by decide
theorem witness_SelectByteOneHotActiveLow : (8#4 : BitVec 4).toNat ≤ 8 ∧ (7#8 : Byte).toNat < (8#4 : BitVec 4).toNat ∧
    (8#4 : BitVec 4).toNat ≤ (8#8 : Byte).toNat := by decide
theorem witness_NopAndReservedLeaveState : fieldOp 0x0FFF = 0 ∧ (0x8FFF#16 &&& 0x8000) = 0x8000 ∧ 8 ≤ (fieldOp 0x8000).toNat ∧
    (host demo 0x8000).now.cmdValid = true ∧ (host demo 0x8000).now.cmd = 0x8000 := by decide
theorem witness_InitConfigures : fieldOp 0x1FFF = 0x1 ∧ (host strobing 0x1104).busy = true ∧ (host demo 0x1104).cfg.wf = true ∧ (host demo 0x1104).now.cmdValid = true ∧
    decode (host demo 0x1104).now.cmd = .init true 4 := by decide
theorem witness_SetDigitWritesOneEntry : demo.ndig.toNat ≤ (4#4 : Nibble).toNat ∧ demo.ndig.toNat ≤ 8 ∧
    8 ≤ (8#4 : Nibble).toNat ∧ (3#4 : Nibble).toNat < demo.ndig.toNat ∧ fieldOp 0x2FFF = 0x2 := by decide
theorem witness_SetDpWritesOneBit : demo.ndig.toNat ≤ (4#4 : Nibble).toNat ∧
    (3#4 : Nibble).toNat < demo.ndig.toNat ∧ fieldOp 0x3FFF = 0x3 := by decide
theorem witness_ClearBlanksAll : demo.cfg.wf = true ∧ fieldOp 0x4FFF = 0x4 := by decide
theorem witness_SetBrightnessSaturates : (flying 5 true true false 0).cfg.wf = true ∧ fieldOp 0x5FFF = 0x5 := by decide
theorem witness_LockWritesOnlyLock : ({ demo with lock := true } : State).lock = true ∧ fieldOp 0x7FFF = 0x7 := by
  decide
theorem witness_TickStartsFrame : Legal demo ∧ demo.ndig ≠ 0 ∧ fieldOp 0x6FFF = 0x6 :=
  ⟨demo_legal, by decide, by decide⟩
theorem witness_TickUnconfiguredDoesNothing : (tickOnly State.reset).ndig = 0 ∧
    grantedInstr (tickOnly State.reset) = some .tick := by decide
theorem witness_CommandsAreIdempotent : Instr.setDp 3 true ≠ .tick ∧
    ∃ t, exec (.setDp 3 true) demo = .next t := ⟨by decide, _, rfl⟩
theorem witness_BufferCommandsLeaveTheEngineAlone : Instr.init true 4 ≠ .tick ∧
    (host demo 0x1104).now.cmdValid = true ∧ decode (host demo 0x1104).now.cmd = .init true 4 := by decide
theorem witness_ResetCycleResets : ({ strobing with inputs := [{ rst := true }] } : State).cfg.wf = true ∧
    ({ strobing with inputs := [{ rst := true }] } : State).now.rst = true := by decide
theorem witness_MidFrameResetKeepsTheDisplay :
    let s : State := { flying 20 false true false 1 with inputs := [{ rst := true }] }
    let s' : State := { demo with inputs := [{ rst := true }] }
    s.now.rst = true ∧ s.busy = true ∧ s.cfg.latchEdge = .rising ∧ (∃ t, step s = .next t) ∧
    s'.now.rst = true ∧ s'.busy = false ∧ s'.cfg.shiftEdge = .rising ∧ ∃ t, step s' = .next t :=
  ⟨by decide, by decide, by decide, ⟨_, rfl⟩, by decide, by decide, by decide, ⟨_, rfl⟩⟩
theorem witness_UnconfiguredUntilInit :
    let s := host State.reset 0x1000
    s.ndig = 0 ∧ s.busy = false ∧ s.lines = ⟨false, false, false⟩ ∧ (∃ t, step s = .next t) ∧
    ∀ polb cnt, grantedInstr s = some (.init polb cnt) → cnt = 0 := by
  refine ⟨by decide, by decide, by decide, ⟨_, rfl⟩, fun polb cnt h => ?_⟩
  have h' : grantedInstr (host State.reset 0x1000) = some (.init false 0) := by decide
  rw [h'] at h
  injection h with h
  injection h with _ h
  exact h.symm
theorem witness_UnconfiguredUntilInit_reset :
    let s : State := { strobing with inputs := [{ rst := true }] }
    s.now.rst = true ∧ ∃ t, step s = .next t := ⟨by decide, _, rfl⟩
theorem witness_LegalIsInvariant : Legal strobing ∧ ∃ t, step strobing = .next t := ⟨strobing_sound.legal, _, rfl⟩
theorem witness_StartedFrameSelectsOneDigit : ∃ t, FrameStarted t :=
  ⟨_, .start (sound_inputs demo_sound [{ tickReq := true }]).legal (by decide) (by decide) rfl⟩
theorem witness_LinesFollowFrameIsInvariant :
    Legal strobing ∧ LinesFollowFrame strobing ∧ ∃ t, step strobing = .next t :=
  ⟨strobing_sound.legal, strobing_sound.lines, _, rfl⟩
theorem witness_ChainFollowsFrameIsInvariant : Sound strobing ∧ ∃ t, step strobing = .next t :=
  ⟨strobing_sound, _, rfl⟩
theorem witness_LineEventsInOrder :
    (flying 45 true false false 0).now.rst = false ∧ (flying 45 true false false 0).busy = true ∧
    (flying 45 true false false 0).tmr = 0 ∧ (flying 45 true false false 0).ph.val = 3 * 15 ∧
    (flying 46 true false false 0).ph.val = 3 * 15 + 1 ∧ (flying 47 true true false 0).ph.val = 3 * 15 + 2 ∧
    strobing.ph.val = 48 ∧ (flying 49 true false true 0).ph.val = 49 ∧
    ¬ (demo.busy = true ∧ demo.tmr = 0) ∧ ∃ t, step (flying 45 true false false 0) = .next t :=
  ⟨by decide, by decide, by decide, by decide, by decide, by decide, by decide, by decide, by decide, _, rfl⟩
theorem witness_FrameEngineAdvances : Legal strobing ∧ strobing.now.rst = false ∧ strobing.busy = true ∧
    strobing.tmr = 0 ∧ strobing.ph.val < 49 ∧ ∃ t, step strobing = .next t :=
  ⟨strobing_sound.legal, by decide, by decide, by decide, by decide, _, rfl⟩
/-- The other two clauses of FrameEngineAdvances: counting down (P = 2), and event 49. -/
def counting : State := { flying 3 true false false 1 with cfg := { phaseCycles := 2 }, tmr := 1 }
theorem witness_FrameEngineAdvances_counting : Legal counting ∧ counting.now.rst = false ∧ counting.busy = true ∧
    counting.tmr ≠ 0 ∧ ∃ t, step counting = .next t :=
  ⟨⟨by decide, by decide, by decide, by decide, by decide, by decide, by decide, by decide, by decide, by decide,
    by decide⟩, by decide, by decide, by decide, _, rfl⟩
theorem witness_FrameEngineAdvances_last : Legal (flying 49 true false true 0xDBFD) ∧
    (flying 49 true false true 0xDBFD).busy = true ∧ (flying 49 true false true 0xDBFD).tmr = 0 ∧
    (flying 49 true false true 0xDBFD).ph.val = 49 ∧ ∃ t, step (flying 49 true false true 0xDBFD) = .next t :=
  ⟨⟨by decide, by decide, by decide, by decide, by decide, by decide, by decide, by decide, by decide, by decide,
    by decide⟩, by decide, by decide, by decide, _, rfl⟩
theorem witness_LinesChangeOneAtATime : Sound strobing ∧ strobing.now.rst = false ∧
    ∃ t, step strobing = .next t ∧ t.stb ≠ strobing.stb :=
  ⟨strobing_sound, by decide, _, rfl, by decide⟩
theorem witness_LinesHoldBetweenFrames : (host demo 0x6000).now.rst = false ∧ (host demo 0x6000).busy = false ∧
    ∃ t, step (host demo 0x6000) = .next t := ⟨by decide, by decide, _, rfl⟩
theorem witness_FrameTiming : Legal (tickOnly demo) ∧ grantedInstr (tickOnly demo) = some .tick ∧
    (tickOnly demo).ndig ≠ 0 ∧ NoReset (tickOnly demo) (49 * (tickOnly demo).cfg.phaseCycles + 2) :=
  ⟨(sound_inputs demo_sound _).legal, by decide, by decide, by unfold NoReset; decide⟩
theorem witness_FrameReachesTheChain : Sound (host demo 0x6000) ∧ grantedInstr (host demo 0x6000) = some .tick ∧
    (host demo 0x6000).ndig ≠ 0 ∧ NoReset (host demo 0x6000) (49 * (host demo 0x6000).cfg.phaseCycles + 2) :=
  ⟨sound_inputs demo_sound _, by decide, by decide, by unfold NoReset; decide⟩
theorem witness_DisplayShowsTheGlyph : ({} : Config).wf = true ∧ (8#4 : BitVec 4).toNat ≤ 8 ∧
    (7 : Fin 8).val < (8#4 : BitVec 4).toNat ∧ (⟨0, 0x7F, 0x00⟩ : Chain).qf = segWire {} 8 true true ∧
    (⟨0, 0x7F, 0x00⟩ : Chain).qn = selRom (BitVec.ofNat 8 (7 : Fin 8).val) 8 := by decide
theorem witness_ChainChangesOnlyAtItsEdges : ∃ t, step (flying 0 false false false 0) = .next t ∧
    crosses .rising (flying 0 false false false 0).stb t.stb = false ∧
    crosses .rising (flying 0 false false false 0).clk t.clk = false := ⟨_, rfl, by decide, by decide⟩
theorem witness_OneDigitEnabledInSteadyState : ∃ t, FrameLatched t ∧ t.ndig ≠ 0 :=
  ⟨_, .strobe strobing_sound (by decide) rfl (by decide), by decide⟩
/-- A run of one cycle in which the frame at position 1 of four completes, after which a TICK is granted. -/
theorem witness_VisitingOrder : Legal completing ∧ completing.ndig ≠ 0 ∧
    ∃ u, FrameRun 0 1 completing u ∧ grantedInstr u = some .tick :=
  ⟨⟨by decide, by decide, by decide, by decide, by decide, by decide, by decide, by decide, by decide, by decide,
    by decide⟩, by decide, _, .cycle (u := completing) (ticks := 0) (frames := 0) .start (by decide)
    (fun ⟨_, _, h⟩ => nomatch show none = some _ from h) rfl, by decide⟩
/-- The same from an idle state, a TICK granted at once. -/
theorem witness_VisitingOrder_idle : Legal (tickOnly demo) ∧ (tickOnly demo).ndig ≠ 0 ∧
    FrameRun 0 0 (tickOnly demo) (tickOnly demo) ∧ grantedInstr (tickOnly demo) = some .tick ∧
    (tickOnly demo).busy = false :=
  ⟨(sound_inputs demo_sound _).legal, by decide, .start, by decide, by decide⟩
theorem witness_FrameInFlightIsImmune :
    let s := strobing
    let s' := host { strobing with bright := 3 } 0x2009
    s.busy = true ∧
    s' = { s with pol := s'.pol, buf := s'.buf, dpm := s'.dpm, bright := s'.bright, lock := s'.lock, rr := s'.rr,
                  inputs := s'.inputs } ∧
    s.now.rst = false ∧ s'.now.rst = false ∧ (∃ t, step s = .next t) ∧ ∃ t', step s' = .next t' :=
  ⟨by decide, rfl, by decide, by decide, ⟨_, rfl⟩, ⟨_, rfl⟩⟩
theorem witness_RoundRobin : contest (both demo 0x2000) = true ∧ (both demo 0x2000).now.rst = false ∧
    contest (host demo 0x2000) = false ∧ (host demo 0x2000).now.rst = false ∧
    (∃ t, step (both demo 0x2000) = .next t) ∧ ∃ t, step (host demo 0x2000) = .next t :=
  ⟨by decide, by decide, by decide, by decide, ⟨_, rfl⟩, ⟨_, rfl⟩⟩
theorem witness_StepRunsTheDecodedCommand : grant (host demo 0x2207) = some .host ∧ (host demo 0x2207).busy = false ∧
    grant (host strobing 0x2207) = some .host ∧ grant (tickOnly demo) = some .tick := by decide
theorem witness_BothPortsTickAlike :
    let i1 : Inputs := { cmdValid := true, cmd := 0x6000 }
    let i2 : Inputs := { tickReq := true }
    grant { demo with inputs := i1 :: [] } = some .host ∧ decode i1.cmd = .tick ∧
    grant { demo with inputs := i2 :: [] } = some .tick ∧
    (∃ t, step { demo with inputs := i1 :: [] } = .next t) ∧ (∃ t, step { demo with inputs := i2 :: [] } = .next t) ∧
    contest { demo with inputs := i1 :: [] } = false ∧ contest { demo with inputs := i2 :: [] } = false :=
  ⟨by decide, by decide, by decide, ⟨_, rfl⟩, ⟨_, rfl⟩, by decide, by decide⟩
theorem witness_UngrantedRequestsHaveNoEffect : (host strobing 0x6000).now.rst = false ∧
    grant (host strobing 0x6000) = none ∧ grant (both demo 0x1104) = some .tick ∧
    (∃ t, step (both demo 0x1104) = .next t) ∧ (∃ t, step (tickOnly demo) = .next t) ∧
    grant (both { demo with rr := .host } 0x1104) = some .host ∧
    (∃ t, step (both { demo with rr := .host } 0x1104) = .next t) ∧
    ∃ t, step (host { demo with rr := .host } 0x1104) = .next t :=
  ⟨by decide, by decide, by decide, ⟨_, rfl⟩, ⟨_, rfl⟩, by decide, ⟨_, rfl⟩, ⟨_, rfl⟩⟩
theorem witness_LockHoldsTheTickPort :
    let s := both { demo with lock := true } 0x2207
    s.lock = true ∧
    (∀ k v, k < 1 → runCycles k s = .next v → v.now.rst = false ∧ grantedInstr v ≠ some (.lock false)) ∧
    ∃ u, runCycles 1 s = .next u := by
  refine ⟨by decide, fun k v hk h => ?_, _, rfl⟩
  obtain rfl : k = 0 := by omega
  obtain rfl := Host.Outcome.next.inj h
  exact ⟨by decide, by decide⟩
theorem witness_OnlyTheNamedWritersWrite : (host strobing 0x2009).now.rst = false ∧
    ∃ t, step (host strobing 0x2009) = .next t ∧ t.buf ≠ strobing.buf := ⟨by decide, _, rfl, by decide⟩
theorem witness_EngineAndCommandCommute : Instr.setDigit 0 9 ≠ .tick ∧
    (∀ polb cnt, Instr.setDigit 0 9 ≠ .init polb cnt) ∧ ∃ t, exec (.setDigit 0 9) strobing = .next t :=
  ⟨by decide, fun _ _ h => (by cases h), _, rfl⟩
theorem witness_CyclesRefineTransactions : (host strobing 0x2009).now.rst = false ∧
    ((host strobing 0x2009).busy = true ∧ (host strobing 0x2009).tmr = 0) ∧
    grant (host strobing 0x2009) = some .host ∧ (∃ t, step (host strobing 0x2009) = .next t) ∧
    (tickOnly demo).now.rst = false ∧ ¬ ((tickOnly demo).busy = true ∧ (tickOnly demo).tmr = 0) ∧
    grant (tickOnly demo) = some .tick ∧ ∃ t, step (tickOnly demo) = .next t :=
  ⟨by decide, by decide, by decide, ⟨_, rfl⟩, by decide, by decide, by decide, ⟨_, rfl⟩⟩
theorem witness_LoserWinsTheNextContest :
    let x : Inputs := { cmdValid := true, cmd := 0x2003, tickReq := true }
    let s : State := { demo with ndig := 0, idx := 0, inputs := [x, x] }
    NoReset s 2 ∧ contest s = true ∧ (∀ k v, 0 < k → k < 0 + 1 → runCycles k s = .next v → contest v = false) ∧
    ∃ u, runCycles 1 s = .next u ∧ contest u = true :=
  ⟨by unfold NoReset; decide, by decide, fun k v h0 h1 _ => by omega, _, rfl, by decide⟩
theorem witness_PlainCommandWaitsAtMostOneCycle :
    let x : Inputs := { cmdValid := true, cmd := 0x2003, tickReq := true }
    let s : State := { demo with inputs := [x, x] }
    NoReset s 2 ∧ s.now.cmdValid = true ∧ waitsForFrame s.now.cmd = false ∧ HostHoldsRequest s ∧
    grant s = some .tick :=
  ⟨by unfold NoReset; decide, by decide, by decide, fun _ _ => by decide, by decide⟩
theorem witness_HostInitOrTickWaitIsBounded :
    let s : State := { demo with inputs := List.replicate 102 { cmdValid := true, cmd := 0x6000, tickReq := true } }
    let bound := 2 * (49 * s.cfg.phaseCycles + 1) + 1
    Legal s ∧ waitsForFrame 0x6000 = true ∧ NoReset s (bound + 1) ∧
    ∀ i, i ≤ bound → (inputAt s i).cmdValid = true ∧ (inputAt s i).cmd = 0x6000 := by
  refine ⟨(sound_inputs demo_sound _).legal, by decide, by unfold NoReset; decide, by decide⟩

/-- With no command presented and no reset, LOCK keeps its value and the inputs move up by one. -/
theorem quiet_step {s t : State} (hv : s.now.cmdValid = false) (hr : s.now.rst = false) (h : step s = .next t) :
    t.lock = s.lock ∧ t.inputs = s.inputs.tail := by
  have hk := frameEngine_keeps s.nextCycle
  rcases step_inv h with ⟨h1, -⟩ | ⟨-, -, rfl⟩ | ⟨-, p, u, hg, hu, rfl⟩
  · simp [hr] at h1
  · simp [engineCycle, hk]
  · cases p with
    | host => simpa [eligibleHost, hv] using (grant_host_inv hg).2
    | tick =>
      have hd : decode (grantedWord s .tick) = .tick := show decode tickWord = .tick by decide
      rw [hd] at hu
      rw [exec_inv hu]
      simp only [effect]
      split <;> simp [engineCycle, hk]

theorem quiet_run (k : Nat) : ∀ {s u : State}, (∀ x ∈ s.inputs, x.cmdValid = false ∧ x.rst = false) →
    runCycles k s = .next u → u.lock = s.lock := by
  induction k with
  | zero => intro s u _ h; exact (congrArg State.lock (Host.Outcome.next.inj h)).symm
  | succ k ih =>
    intro s u hq h
    have hn : s.now.cmdValid = false ∧ s.now.rst = false := by
      cases hi : s.inputs with
      | nil => simp [State.now, hi]
      | cons x xs => simpa [State.now, hi] using hq x (by simp [hi])
    simp only [runCycles, Host.Core.run] at h
    split at h
    · rename_i t ht
      have ⟨hl, hin⟩ := quiet_step hn.1 hn.2 (show step s = .next t from ht)
      rw [ih (fun x hx => hq x (List.mem_of_mem_tail (hin ▸ hx))) h, hl]
    · cases h
    · cases h

theorem witness_TickPortWaitIsBounded :
    let s : State := { demo with inputs := List.replicate 102 { tickReq := true } }
    let bound := 2 * (49 * s.cfg.phaseCycles + 1) + 1
    Legal s ∧ NoReset s (bound + 1) ∧ (∀ i, i ≤ bound → (inputAt s i).tickReq = true) ∧
    ∀ k v, k ≤ bound → runCycles k s = .next v → v.lock = false := by
  refine ⟨(sound_inputs demo_sound _).legal, by unfold NoReset; decide, by decide, fun k v _ h => ?_⟩
  exact quiet_run k (fun x hx => by rw [List.eq_of_mem_replicate hx]; exact ⟨rfl, rfl⟩) h
theorem witness_AdvisoryDelay : ({} : Config).wf = true ∧ (8#4 : BitVec 4) ≠ 0 := by decide
theorem witness_RefreshReachableAtMinimumPulse : ({} : Config).wf = true ∧
    ({} : Config).phaseCycles * ({} : Config).tClkPs = ({} : Config).tPulseMinPs ∧
    ({} : Config).refreshHzMin = 50 ∧ (8#4 : BitVec 4).toNat ≤ 8 := by decide
theorem witness_FormatterBlanksLeadingZeros :
    1 ≤ ({ n := 1, leadingZerosDefault := false } : FormatterSetup).n := by decide

end Sys2Proof.Tests
end

section
/-! PROOFS. The state family (10_state.md): first the rules about a step that every proof below cites. A cycle without
reset is one equation, `step_eq`: the frame engine and RR, then one command, then the chain; and what a command can
write is one relation, `CommandWrites`. -/

namespace Sys2Proof.Machine

/-! ### The command of a cycle -/

theorem exec_eq (i : Instr) (s : State) : exec i s = .next (effect i s) := by cases i <;> rfl

/-- The command a cycle runs, NOP when nothing is granted: a NOP leaves the state unchanged (R191). -/
def executedInstr (s : State) : Instr := (grantedInstr s).getD .nop

theorem executedInstr_eq_of_granted {s : State} {i : Instr} (h : grantedInstr s = some i) : executedInstr s = i := by
  simp [executedInstr, h]

theorem grantedInstr_eq_of_executed {s : State} {i : Instr} (h : executedInstr s = i) (hi : i ≠ .nop) :
    grantedInstr s = some i := by
  cases hg : grantedInstr s with
  | none => exact absurd (by simp [← h, executedInstr, hg]) hi
  | some j => rw [← h, executedInstr_eq_of_granted hg]

theorem not_rst_of_granted {s : State} {i : Instr} (h : grantedInstr s = some i) : s.now.rst = false := by
  by_contra hr
  simp [grantedInstr, grant_none_of_rst (show s.now.rst = true by simpa using hr)] at h

/-- The step of R224 in a cycle without reset, as one equation. -/
theorem step_eq {s : State} (hr : s.now.rst = false) :
    step s = .next ((effect (executedInstr s) (engineCycle s)).sampleChain s.lines) := by
  have he : executeGrant s (grant s) (engineCycle s) = .next (effect (executedInstr s) (engineCycle s)) := by
    cases hg : grant s with
    | none => simp [executeGrant, executedInstr, grantedInstr, hg, effect]
    | some p => simp [executeGrant, executedInstr, grantedInstr, hg, exec_eq]
  simp [step, cycle, hr, he]

theorem step_next {s t : State} (hr : s.now.rst = false) (h : step s = .next t) :
    t = (effect (executedInstr s) (engineCycle s)).sampleChain s.lines :=
  Host.Outcome.next.inj (h.symm.trans (step_eq hr))

/-- A cycle is a reset, or runs `executedInstr` after the engine. -/
theorem step_cases {s t : State} (h : step s = .next t) :
    (s.now.rst = true ∧ t = resetCycle s) ∨
    (s.now.rst = false ∧ t = (effect (executedInstr s) (engineCycle s)).sampleChain s.lines) := by
  cases hr : s.now.rst with
  | true => exact .inl ⟨rfl, Host.Outcome.next.inj (h.symm.trans (by simp [step, cycle, hr]))⟩
  | false => exact .inr ⟨rfl, step_next hr h⟩

/-! ### Which commands wait for the frame -/

theorem decode_opcode (w : CmdWord) : (decode w).opcode = fieldOp w := by
  unfold decode
  split
  case h_9 => rfl
  all_goals
    rename_i h
    exact BitVec.eq_of_toNat_eq h.symm

/-- INIT and TICK, told by the opcode as R221 tells them. -/
def waits (i : Instr) : Bool := i.opcode == 0x1 || i.opcode == 0x6

theorem waitsForFrame_eq (w : CmdWord) : waitsForFrame w = waits (decode w) := by
  simp only [waits, decode_opcode, waitsForFrame]

/-- R221: while a frame is in flight no INIT and no TICK is executed, from either port. -/
theorem not_busy_of_executed_waits {s : State} (h : waits (executedInstr s) = true) : s.busy = false := by
  cases hg : grant s with
  | none => simp [executedInstr, grantedInstr, hg, waits, Instr.opcode] at h
  | some p =>
    cases p with
    | host =>
      have hw : waitsForFrame s.now.cmd = true := by
        simpa [executedInstr, grantedInstr, hg, grantedWord, waitsForFrame_eq] using h
      have he : s.now.cmdValid = true ∧ s.busy = false := by
        simpa [eligibleHost, hw] using (grant_host_inv hg).2
      exact he.2
    | tick =>
      have he : (s.now.tickReq = true ∧ s.busy = false) ∧ s.lock = false := by
        simpa [eligibleTick] using (grant_tick_inv hg).2
      exact he.1.2

theorem executed_waits_of_busy {s : State} (h : s.busy = true) : waits (executedInstr s) = false := by
  by_contra hw
  exact absurd (not_busy_of_executed_waits (by simpa using hw)) (by simp [h])

/-! ### The engine's part of a cycle -/

/-- The engine's part of a cycle keeps all that `frameEngine_keeps` lists, consumes the sample and moves RR (R224). -/
@[simp] theorem engineCycle_keeps (s : State) :
    (engineCycle s).cfg = s.cfg ∧ (engineCycle s).pol = s.pol ∧ (engineCycle s).ndig = s.ndig ∧
    (engineCycle s).buf = s.buf ∧ (engineCycle s).dpm = s.dpm ∧ (engineCycle s).bright = s.bright ∧
    (engineCycle s).lock = s.lock ∧ (engineCycle s).rr = turnAfter s ∧ (engineCycle s).sw = s.sw ∧
    (engineCycle s).chain = s.chain ∧ (engineCycle s).inputs = s.inputs.tail := by
  simp [engineCycle, frameEngine_keeps]

/-- "In a cycle in which BUSY = 0 at its start, the frame engine does nothing" (R143). -/
theorem engineCycle_idle {s : State} (h : s.busy = false) : engineCycle s = s.nextCycle.setTurn (turnAfter s) := by
  simp [engineCycle, frameEngine, h]

/-- What waits for the frame runs on an idle engine. -/
theorem engineCycle_not_busy_of_executed_waits {s : State} (h : waits (executedInstr s) = true) :
    (engineCycle s).busy = false := by
  have hb := not_busy_of_executed_waits h
  rw [engineCycle_idle hb]
  exact hb

/-- Outside the cycles of an event the engine writes no line. -/
theorem engineCycle_lines {s : State} (h : ¬ (s.busy = true ∧ s.tmr = 0)) : (engineCycle s).lines = s.lines := by
  rcases frameEngine_cases s.nextCycle with ⟨-, he⟩ | ⟨-, -, he⟩ | ⟨hb, ht, -⟩ | ⟨hb, ht, -⟩
  · rw [engineCycle, he]; rfl
  · rw [engineCycle, he]; rfl
  · exact absurd ⟨hb, ht⟩ h
  · exact absurd ⟨hb, ht⟩ h

/-- Only event 49 moves IDX and ends a frame (R143, R174). -/
theorem engineCycle_idx_busy {s : State} (h : ¬ (s.busy = true ∧ s.tmr = 0 ∧ s.ph = 49)) :
    (engineCycle s).idx = s.idx ∧ (engineCycle s).busy = s.busy := by
  rcases frameEngine_cases s.nextCycle with ⟨-, he⟩ | ⟨-, -, he⟩ | ⟨-, -, -, he⟩ | ⟨hb, ht, hp, -⟩
  · rw [engineCycle, he]; exact ⟨rfl, rfl⟩
  · rw [engineCycle, he]; exact ⟨rfl, rfl⟩
  · rw [engineCycle, he]; exact ⟨rfl, rfl⟩
  · exact absurd ⟨hb, ht, hp⟩ h

/-! ### What a command can write -/

/-- The ways a command can change the state, with the guard under which it does; a command whose guard fails writes
nothing (R51, R173). -/
inductive CommandWrites (s : State) : Instr → State → Prop
  | nothing (i : Instr) : CommandWrites s i s
  | init (polb : Bool) (cnt : Byte) :
      CommandWrites s (.init polb cnt) ((s.configure polb (saturateCount s.cfg cnt)).blankAll.rewind)
  | setDigit {pos : Nibble} (val : Byte) : pos.toNat < s.ndig.toNat →
      CommandWrites s (.setDigit pos val) (s.writeDigit pos val)
  | setDp {pos : Nibble} (on : Bool) : pos.toNat < s.ndig.toNat → CommandWrites s (.setDp pos on) (s.writePoint pos on)
  | clear : CommandWrites s .clear s.blankAll
  | setBrightness (pct : Byte) : CommandWrites s (.setBrightness pct) (s.setBright (saturatePercent s.cfg pct))
  | tick : s.ndig ≠ 0 → CommandWrites s .tick (s.startFrame s.snapshot)
  | lock (l : Bool) : CommandWrites s (.lock l) (s.setLock l)

theorem effect_writes (i : Instr) (s : State) : CommandWrites s i (effect i s) := by
  cases i with
  | nop => exact .nothing _
  | init polb cnt => exact .init polb cnt
  | setDigit pos val =>
    simp only [effect]
    split
    · next hv => exact .setDigit val (by simpa [validPosition] using hv)
    · exact .nothing _
  | setDp pos on =>
    simp only [effect]
    split
    · next hv => exact .setDp on (by simpa [validPosition] using hv)
    · exact .nothing _
  | clear => exact .clear
  | setBrightness pct => exact .setBrightness pct
  | tick =>
    simp only [effect]
    split
    · exact .nothing _
    · next hn => exact .tick hn
  | lock l => exact .lock l
  | reserved op => exact .nothing _

@[simp] theorem effect_keeps (i : Instr) (s : State) :
    (effect i s).cfg = s.cfg ∧ (effect i s).lines = s.lines ∧ (effect i s).chain = s.chain ∧
    (effect i s).rr = s.rr ∧ (effect i s).inputs = s.inputs ∧ (effect i s).draws = s.draws :=
  exec_keeps (exec_eq i s)

namespace CommandWrites

variable {i : Instr} {s t : State}

/-- Only TICK writes the snapshot and the engine's fields (R190). -/
theorem engine (h : CommandWrites s i t) (hi : i ≠ .tick) :
    t.sw = s.sw ∧ t.busy = s.busy ∧ t.ph = s.ph ∧ t.tmr = s.tmr := by
  cases h with
  | tick => exact absurd rfl hi
  | _ => exact ⟨rfl, rfl, rfl, rfl⟩

/-- Only INIT writes POL, NDIG and IDX (R23, R24, R27). -/
theorem config (h : CommandWrites s i t) (hi : ∀ polb cnt, i ≠ .init polb cnt) :
    t.pol = s.pol ∧ t.ndig = s.ndig ∧ t.idx = s.idx := by
  cases h with
  | init polb cnt => exact absurd rfl (hi polb cnt)
  | _ => exact ⟨rfl, rfl, rfl⟩

/-- The writers of BUF (R25). -/
theorem buf_writers (h : CommandWrites s i t) (hne : t.buf ≠ s.buf) :
    (∃ polb cnt, i = .init polb cnt) ∨ i = .clear ∨ ∃ pos val, i = .setDigit pos val := by
  cases h with
  | init polb cnt => exact .inl ⟨polb, cnt, rfl⟩
  | clear => exact .inr (.inl rfl)
  | @setDigit pos val => exact .inr (.inr ⟨pos, val, rfl⟩)
  | _ => exact absurd rfl hne

/-- The writers of DPM (R26). -/
theorem dpm_writers (h : CommandWrites s i t) (hne : t.dpm ≠ s.dpm) :
    (∃ polb cnt, i = .init polb cnt) ∨ i = .clear ∨ ∃ pos on, i = .setDp pos on := by
  cases h with
  | init polb cnt => exact .inl ⟨polb, cnt, rfl⟩
  | clear => exact .inr (.inl rfl)
  | @setDp pos on => exact .inr (.inr ⟨pos, on, rfl⟩)
  | _ => exact absurd rfl hne

/-- The writer of BRIGHT (R28). -/
theorem bright_writer (h : CommandWrites s i t) (hne : t.bright ≠ s.bright) : ∃ pct, i = .setBrightness pct := by
  cases h with
  | setBrightness pct => exact ⟨pct, rfl⟩
  | _ => exact absurd rfl hne

/-- The writer of LOCK (R29), and the value it leaves. -/
theorem lock_writer (h : CommandWrites s i t) (hne : t.lock ≠ s.lock) : i = .lock t.lock := by
  cases h with
  | lock l => rfl
  | _ => exact absurd rfl hne

end CommandWrites

end Sys2Proof.Machine
end

section
/-! PROOFS. The legal states (R22, R36) through every cycle: kept by the frame engine, by every command the arbiter can
grant, and true after a reset; then R36(g). -/

namespace Sys2Proof.Machine

/-- R120, R122: the select byte of a valid position enables exactly that position. -/
theorem selRom_selectsOnly {p : Fin 8} {n : BitVec 4} (h : p.val < n.toNat) :
    SelectsOnly (selRom (BitVec.ofNat 8 p.val) n) p := by
  have hp : (BitVec.ofNat 8 p.val).toNat = p.val := by simp; omega
  have hbits : ∀ p i : Fin 8, (0xFF#8 &&& ~~~(1#8 <<< p.val)).getLsbD i.val = decide (i ≠ p) := by decide
  intro i
  rw [selRom, hp, if_pos h]
  exact hbits p i

/-- The select byte of a snapshot is that of IDX (R171). -/
theorem snapshot_selectsOnly {s : State} (h : s.idx.val < s.ndig.toNat) :
    SelectsOnly (s.snapshot.extractLsb' 0 8) s.idx := by
  rw [State.snapshot, BitVec.extractLsb'_append_eq_right]
  exact selRom_selectsOnly h

/-- A reset state is legal under any legal configuration (R340). -/
theorem legal_resetCore {s : State} (h : s.cfg.wf = true) : Legal s.resetCore where
  config := h
  count := Nat.zero_le 8
  index hn := absurd rfl hn
  indexUnconfigured _ := rfl
  unused i _ := by simp [Config.wf_codeBlank h]
  idle _ := ⟨rfl, rfl⟩
  inFlight hb := nomatch hb
  bright := Nat.le_refl 100
  timer := Config.wf_phaseCycles h
  firstEvent _ := rfl
  select hs := hs.elim (fun hb => nomatch hb) (fun hw => absurd rfl hw)

theorem legal_frameEngine {s : State} (h : Legal s) : Legal (frameEngine s) := by
  rcases frameEngine_cases s with ⟨-, he⟩ | ⟨hb, ht, he⟩ | ⟨hb, ht, hp, he⟩ | ⟨hb, ht, hp, he⟩ <;> rw [he]
  · exact h
  · exact { h with
      idle := fun hi => absurd hi (by simp [hb])
      timer := Nat.lt_of_le_of_lt (Nat.sub_le _ _) h.timer
      firstEvent := fun h0 => absurd (h.firstEvent h0) ht }
  · have hnext : s.ph + 1 ≠ 0 := by omega
    exact { h with
      idle := fun hi => absurd hi (by simp [performEvent, hb])
      timer := Nat.sub_lt (Config.wf_phaseCycles h.config) Nat.one_pos
      firstEvent := fun h0 => absurd h0 hnext }
  · have hn : s.ndig ≠ 0 := h.inFlight hb
    have hi : (nextIndex s.idx s.ndig).val < s.ndig.toNat := by
      rw [nextIndex_val _ _ hn h.count]
      exact Nat.mod_lt _ (BitVec.toNat_pos_of_ne_zero hn)
    exact { h with
      index := fun _ => hi
      indexUnconfigured := fun h0 => absurd h0 hn
      idle := fun _ => ⟨rfl, rfl⟩
      inFlight := fun hf => nomatch hf
      timer := Config.wf_phaseCycles h.config
      firstEvent := fun _ => rfl
      select := fun _ => h.select (.inl hb) }

theorem legal_engineCycle {s : State} (h : Legal s) : Legal (engineCycle s) :=
  have hn : Legal s.nextCycle := { h with }
  { legal_frameEngine hn with }

theorem CommandWrites.legal {i : Instr} {s t : State} (hw : CommandWrites s i t) (h : Legal s)
    (hi : waits i = true → s.busy = false) : Legal t := by
  have hblank : s.cfg.codeBlank = 16 := Config.wf_codeBlank h.config
  cases hw with
  | nothing => exact h
  | init polb cnt =>
    have hb : s.busy = false := hi rfl
    have hmax : s.cfg.maxDigits = 8 := Config.wf_maxDigits h.config
    have hcount : (saturateCount s.cfg cnt).toNat ≤ 8 := by
      rw [saturateCount_toNat (by omega)]
      omega
    exact { h with
      count := hcount
      index := BitVec.toNat_pos_of_ne_zero
      indexUnconfigured := fun _ => rfl
      unused := fun j _ => by simp [hblank]
      inFlight := fun hf => absurd (hb.symm.trans hf) Bool.false_ne_true }
  | @setDigit pos val hv =>
    have hkeep (j : Fin 8) (hj : s.ndig.toNat ≤ j.val) : (s.writeDigit pos val).buf[j.val] = s.buf[j.val] := by
      rw [State.writeDigit_getElem s pos val j.val j.isLt, if_neg (by omega)]
    exact { h with unused := fun j hj => ⟨(hkeep j hj).trans (h.unused j hj).1, (h.unused j hj).2⟩ }
  | @setDp pos on hv =>
    have hkeep (j : Fin 8) (hj : s.ndig.toNat ≤ j.val) :
        (s.writePoint pos on).dpm.getLsbD j.val = s.dpm.getLsbD j.val := by
      rw [State.writePoint_dpm, putBit_getLsbD _ _ _ _ j.isLt, if_neg (by omega)]
    exact { h with unused := fun j hj => ⟨(h.unused j hj).1, (hkeep j hj).trans (h.unused j hj).2⟩ }
  | clear => exact { h with unused := fun j _ => by simp [hblank] }
  | setBrightness pct =>
    have hmax : s.cfg.brightMax = 100 := Config.wf_brightMax h.config
    have hbright : (saturatePercent s.cfg pct).toNat ≤ 100 := by
      rw [saturatePercent_toNat (by omega)]
      omega
    exact { h with bright := hbright }
  | tick hn =>
    exact { h with
      idle := fun hf => nomatch hf
      inFlight := fun _ => hn
      timer := Config.wf_phaseCycles h.config
      firstEvent := fun _ => rfl
      select := fun _ => ⟨s.idx, snapshot_selectsOnly (h.index hn)⟩ }
  | lock l => exact { h with }

theorem step_legal {s t : State} (h : Legal s) (hs : step s = .next t) : Legal t := by
  rcases step_cases hs with ⟨-, rfl⟩ | ⟨-, rfl⟩
  · have hcore : Legal s.nextCycle.resetCore := legal_resetCore h.config
    rw [resetCycle_eq]
    exact { hcore with }
  · have hu := (effect_writes _ _).legal (legal_engineCycle h) engineCycle_not_busy_of_executed_waits
    exact { hu with }

/-- Settles O28: the engine, every grantable command and a reset keep a state legal. -/
theorem legalIsInvariant : Obligations.LegalIsInvariant := fun _ _ => step_legal

/-- A TICK with NDIG ≥ 1 loads the snapshot (R171). -/
theorem effect_tick_sw {s : State} (hn : s.ndig ≠ 0) : (effect .tick s).sw = s.snapshot := by
  rw [effect, if_neg hn]
  rfl

/-- A command that runs on a legal state keeps SW's select byte one-hot: TICK loads that of IDX, the others keep SW. -/
theorem CommandWrites.oneDigit {i : Instr} {s t : State} (hw : CommandWrites s i t) (h : Legal s)
    (ho : OneDigit (s.sw.extractLsb' 0 8)) : OneDigit (t.sw.extractLsb' 0 8) := by
  cases hw with
  | tick hn => exact ⟨s.idx, snapshot_selectsOnly (h.index hn)⟩
  | _ => exact ho

/-- R36(g), strengthened by the legality that the next TICK's snapshot needs. -/
theorem frameStarted_legal_oneDigit {s : State} (h : FrameStarted s) : Legal s ∧ OneDigit (s.sw.extractLsb' 0 8) := by
  induction h with
  | @start s t hl hg hn hs =>
    have hidx : (engineCycle s).idx.val < (engineCycle s).ndig.toNat :=
      (legal_engineCycle hl).index (by simpa using hn)
    have ht : t.sw = (engineCycle s).snapshot := by
      rw [step_next (not_rst_of_granted hg) hs, executedInstr_eq_of_granted hg]
      exact effect_tick_sw (by simpa using hn)
    rw [ht]
    exact ⟨step_legal hl hs, _, snapshot_selectsOnly hidx⟩
  | @later s t _ hr _ hs ih =>
    obtain ⟨hl, ho⟩ := ih
    have hu := (effect_writes (executedInstr s) _).oneDigit (legal_engineCycle hl) (by simpa using ho)
    exact ⟨step_legal hl hs, by rw [step_next hr hs]; exact hu⟩

/-- Settles O29, by induction on the run since the frame was started. -/
theorem startedFrameSelectsOneDigit : Obligations.StartedFrameSelectsOneDigit :=
  fun _ h => (frameStarted_legal_oneDigit h).2

end Sys2Proof.Machine
end

section
/-! PROOFS. The lines (R35, R142, R146, R147): the levels between two events, what one event makes of them, and the
lines through every cycle; then the soundness of the reset state. -/

namespace Sys2Proof.Machine

/-- The five kinds of event of R142's table. -/
theorem lineEvent_cases (sw : FrameWord) (k : Fin 50) :
    (∃ j, j < 16 ∧ k.val = 3 * j ∧ lineEvent sw k = .data (shiftBit sw j)) ∨
    (∃ j, j < 16 ∧ k.val = 3 * j + 1 ∧ lineEvent sw k = .clk true) ∨
    (∃ j, j < 16 ∧ k.val = 3 * j + 2 ∧ lineEvent sw k = .clk false) ∨
    (k.val = 48 ∧ lineEvent sw k = .stb true) ∨ (k.val = 49 ∧ lineEvent sw k = .stb false) := by
  unfold lineEvent
  split_ifs with h48 h49 h0 h1
  · exact .inr (.inr (.inr (.inl ⟨h48, rfl⟩)))
  · exact .inr (.inr (.inr (.inr ⟨h49, rfl⟩)))
  · exact .inl ⟨k.val / 3, by omega, by omega, rfl⟩
  · exact .inr (.inl ⟨k.val / 3, by omega, by omega, rfl⟩)
  · exact .inr (.inr (.inl ⟨k.val / 3, by omega, by omega, rfl⟩))

/-- The levels of the lines in flight when the next event is `k` (R142, R146); DATA is free before event 0. -/
structure LevelsBefore (sw : FrameWord) (k : Nat) (l : Lines) : Prop where
  clk : l.clk = decide (k % 3 = 2 ∧ k < 48)
  stb : l.stb = decide (k = 49)
  data : 1 ≤ k → l.data = shiftBit sw (min ((k - 1) / 3) 15)

theorem LinesFollowFrame.levels {s : State} (h : LinesFollowFrame s) (hb : s.busy = true) :
    LevelsBefore s.sw s.ph.val s.lines := ⟨h.clk hb, h.stb hb, h.data hb⟩

theorem LevelsBefore.linesFollowFrame {s : State} (h : LevelsBefore s.sw s.ph.val s.lines) (hb : s.busy = true) :
    LinesFollowFrame s where
  idle hi := absurd (hi.symm.trans hb) Bool.false_ne_true
  clk _ := h.clk
  stb _ := h.stb
  data _ := h.data

/-- Event `k` takes the levels before it to those before event `k + 1`. -/
theorem LevelsBefore.drive {sw : FrameWord} {k : Fin 50} {l : Lines} (h : LevelsBefore sw k.val l)
    (hk : k.val < 49) : LevelsBefore sw (k.val + 1) ((lineEvent sw k).drive l) := by
  obtain ⟨hclk, hstb, hdata⟩ := h
  have hheld (hm : k.val % 3 ≠ 0 ∨ k.val = 48) : l.data = shiftBit sw (min (k.val / 3) 15) := by
    rw [hdata (by omega)]
    congr 1
    omega
  rcases lineEvent_cases sw k with ⟨j, hj, hkj, he⟩ | ⟨j, hj, hkj, he⟩ | ⟨j, hj, hkj, he⟩ | ⟨hkj, he⟩ | ⟨hkj, -⟩
  · have hlow : l.clk = false := by simp [hclk]; omega
    have hbit : min (k.val / 3) 15 = j := by omega
    constructor <;> simp [he, LineEvent.drive, hlow, hstb, hbit] <;> omega
  · constructor <;> simp [he, LineEvent.drive, hstb, hheld (by omega)] <;> omega
  · constructor <;> simp [he, LineEvent.drive, hstb, hheld (by omega)] <;> omega
  · have hlow : l.clk = false := by simp [hclk]; omega
    constructor <;> simp [he, LineEvent.drive, hlow, hheld (by omega)] <;> omega
  · omega

/-- Event 49 takes them to the levels of R147: CLK and STB low, DATA the frame's last bit. -/
theorem LevelsBefore.drive_last {sw : FrameWord} {k : Fin 50} {l : Lines} (h : LevelsBefore sw k.val l)
    (hk : k = 49) : (lineEvent sw k).drive l = ⟨sw.getLsbD 0, false, false⟩ := by
  subst hk
  have he : lineEvent sw 49 = .stb false := rfl
  simp [he, LineEvent.drive, h.clk, h.data, shiftBit]

theorem linesFollowFrame_frameEngine {s : State} (h : LinesFollowFrame s) : LinesFollowFrame (frameEngine s) := by
  rcases frameEngine_cases s with ⟨-, he⟩ | ⟨hb, ht, he⟩ | ⟨hb, ht, hp, he⟩ | ⟨hb, ht, hp, he⟩ <;> rw [he]
  · exact h
  · exact { h with }
  · have hnext : (s.ph + 1).val = s.ph.val + 1 := by omega
    refine LevelsBefore.linesFollowFrame ?_ hb
    have hl := (h.levels hb).drive (by omega)
    rw [← hnext] at hl
    exact hl
  · have hl := (h.levels hb).drive_last hp
    exact {
      idle := fun _ => ⟨congrArg Lines.clk hl, congrArg Lines.stb hl, congrArg Lines.data hl⟩
      clk := fun hf => nomatch hf
      stb := fun hf => nomatch hf
      data := fun hf => nomatch hf }

theorem CommandWrites.linesFollowFrame {i : Instr} {s t : State} (hw : CommandWrites s i t) (h : LinesFollowFrame s)
    (hi : waits i = true → s.busy = false) : LinesFollowFrame t := by
  cases hw with
  | tick hn =>
    obtain ⟨hclk, hstb, -⟩ := h.idle (hi rfl)
    exact LevelsBefore.linesFollowFrame ⟨hclk, hstb, fun h1 => absurd h1 (Nat.not_succ_le_zero 0)⟩ rfl
  | _ => exact { h with }

theorem linesFollowFrame_resetCore (s : State) : LinesFollowFrame s.resetCore where
  idle _ := ⟨rfl, rfl, by simp⟩
  clk hb := nomatch hb
  stb hb := nomatch hb
  data hb := nomatch hb

theorem step_linesFollowFrame {s t : State} (h : LinesFollowFrame s) (hs : step s = .next t) :
    LinesFollowFrame t := by
  rcases step_cases hs with ⟨-, rfl⟩ | ⟨-, rfl⟩
  · rw [resetCycle_eq]
    exact { linesFollowFrame_resetCore s.nextCycle with }
  · have hn : LinesFollowFrame s.nextCycle := { h with }
    have he : LinesFollowFrame (engineCycle s) := { linesFollowFrame_frameEngine hn with }
    have hu := (effect_writes _ _).linesFollowFrame he engineCycle_not_busy_of_executed_waits
    exact { hu with }

/-- Settles O30: an event moves the lines from the levels before it to those before the next, and a TICK starts from
idle lines. -/
theorem linesFollowFrameIsInvariant : Obligations.LinesFollowFrameIsInvariant :=
  fun _ _ _ => step_linesFollowFrame

/-- Settles O35: the engine is idle, no command writes the lines, and the chain samples only a change. -/
theorem linesHoldBetweenFrames : Obligations.LinesHoldBetweenFrames := by
  intro s t hr hb hs
  have hlines : (effect (executedInstr s) (engineCycle s)).lines = s.lines := by
    simp [engineCycle_lines, hb]
  rw [step_next hr hs]
  refine ⟨hlines, ?_⟩
  simp [hlines, Chain.sample_same]

/-! ### The reset state -/

/-- Settles O23: the fields of the reset state as written. -/
theorem resetValues : Obligations.ResetValues := by
  have hbuf : ∀ i : Fin 8, State.reset.buf[i.val] = 16 := by decide
  exact ⟨rfl, rfl, hbuf, rfl, rfl, rfl, rfl, rfl, rfl, rfl, rfl, rfl, rfl, rfl, rfl⟩

theorem resetCore_reset : State.reset.resetCore = State.reset := rfl

theorem chainFollowsFrame_of_idle {s : State} (hb : s.busy = false) : ChainFollowsFrame s where
  shifted hf := absurd (hb.symm.trans hf) Bool.false_ne_true
  latched hf := absurd (hb.symm.trans hf) Bool.false_ne_true

/-- Settles O24: the reset state is what a reset leaves under the default configuration, which is legal. -/
theorem resetIsSound : Obligations.ResetIsSound where
  legal := resetCore_reset ▸ legal_resetCore (by decide)
  lines := resetCore_reset ▸ linesFollowFrame_resetCore _
  chain := chainFollowsFrame_of_idle rfl

end Sys2Proof.Machine
end

section
/-! PROOFS. Who writes each field of R22's table, and what a frame in flight does not depend on (R32, R177). -/

namespace Sys2Proof.Machine

/-- With no frame in flight at the start the engine moves neither PH nor TMR (R143). -/
theorem engineCycle_ph_tmr {s : State} (h : ¬ s.busy = true) :
    (engineCycle s).ph = s.ph ∧ (engineCycle s).tmr = s.tmr := by
  rw [engineCycle_idle (by simpa using h)]
  exact ⟨rfl, rfl⟩

theorem initGranted_of_executed {s : State} : (∃ polb cnt, executedInstr s = .init polb cnt) → InitGranted s :=
  fun ⟨polb, cnt, hi⟩ => ⟨polb, cnt, grantedInstr_eq_of_executed hi nofun⟩

/-- Settles O50, a clause a field: what the engine's part of the cycle keeps, the executed command wrote. -/
theorem onlyTheNamedWritersWrite : Obligations.OnlyTheNamedWritersWrite := by
  intro s t hr hs
  have hw := effect_writes (executedInstr s) (engineCycle s)
  have hk := effect_keeps (executedInstr s) (engineCycle s)
  have ht := step_next hr hs
  generalize effect (executedInstr s) (engineCycle s) = u at hw hk ht
  subst ht
  obtain ⟨hcfg, hlines, -, hrr, -⟩ := hk
  have hconfig (h : ¬ InitGranted s) := hw.config fun polb cnt hi => h (initGranted_of_executed ⟨polb, cnt, hi⟩)
  have hengine (h : ¬ grantedInstr s = some .tick) := hw.engine fun hi => h (grantedInstr_eq_of_executed hi nofun)
  refine ⟨fun hne => ?pol_ndig, fun hne => ?buf, fun hne => ?dpm, fun hne => ?idx, fun hne => ?bright,
    fun hne => ?lock, fun hne => ?rr, fun hne => ?busy, fun hne => ?sw, fun hne => ?ph_tmr, fun hne => ?lines, ?cfg⟩
  case pol_ndig =>
    by_contra hg
    simp [hconfig hg] at hne
  case buf =>
    rcases hw.buf_writers (by simpa using hne) with hi | hi | ⟨pos, val, hi⟩
    · exact .inl (initGranted_of_executed hi)
    · exact .inr (.inl (grantedInstr_eq_of_executed hi nofun))
    · exact .inr (.inr ⟨pos, val, grantedInstr_eq_of_executed hi nofun⟩)
  case dpm =>
    rcases hw.dpm_writers (by simpa using hne) with hi | hi | ⟨pos, on, hi⟩
    · exact .inl (initGranted_of_executed hi)
    · exact .inr (.inl (grantedInstr_eq_of_executed hi nofun))
    · exact .inr (.inr ⟨pos, on, grantedInstr_eq_of_executed hi nofun⟩)
  case idx =>
    by_contra hg
    obtain ⟨hinit, hlast⟩ := not_or.mp hg
    simp [hconfig hinit, engineCycle_idx_busy hlast] at hne
  case bright =>
    obtain ⟨pct, hi⟩ := hw.bright_writer (by simpa using hne)
    exact ⟨pct, grantedInstr_eq_of_executed hi nofun⟩
  case lock => exact ⟨_, grantedInstr_eq_of_executed (hw.lock_writer (by simpa using hne)) nofun⟩
  case rr =>
    by_contra hc
    simp [hrr, turnAfter, hc] at hne
  case busy =>
    by_contra hg
    obtain ⟨htick, hlast⟩ := not_or.mp hg
    simp [hengine htick, engineCycle_idx_busy hlast] at hne
  case sw =>
    by_contra htick
    simp [hengine htick] at hne
  case ph_tmr =>
    by_contra hg
    obtain ⟨htick, hidle⟩ := not_or.mp hg
    simp [hengine htick, engineCycle_ph_tmr hidle] at hne
  case lines =>
    by_contra hevent
    exact hne (hlines.trans (engineCycle_lines hevent))
  case cfg => simpa using hcfg

/-! ### The frame in flight -/

/-- What a frame in flight goes on with: the state without POL, BUF, DPM, BRIGHT, LOCK, RR and the requests. -/
def frameView (s : State) : State :=
  { s with pol := false, buf := Vector.replicate 8 0, dpm := 0, bright := 0, lock := false, rr := .tick, inputs := [] }

theorem frameView_frameEngine (s : State) : frameView (frameEngine s) = frameEngine (frameView s) := by
  simp only [frameEngine, apply_ite frameView]
  rfl

/-- A command that does not wait for the frame writes nothing a frame in flight goes on with. -/
theorem CommandWrites.frameView_eq {i : Instr} {s t : State} (hw : CommandWrites s i t) (hi : waits i = false) :
    frameView t = frameView s := by
  cases hw with
  | init polb cnt => nomatch hi
  | tick hn => nomatch hi
  | _ => rfl

theorem step_frameView {s t : State} (hb : s.busy = true) (hr : s.now.rst = false) (hs : step s = .next t) :
    frameView t = (frameEngine (frameView s)).sampleChain s.lines := by
  have hw := (effect_writes (executedInstr s) (engineCycle s)).frameView_eq (executed_waits_of_busy hb)
  rw [step_next hr hs]
  calc frameView ((effect (executedInstr s) (engineCycle s)).sampleChain s.lines)
      = (frameView (effect (executedInstr s) (engineCycle s))).sampleChain s.lines := rfl
    _ = (frameView (engineCycle s)).sampleChain s.lines := by rw [hw]
    _ = (frameView (frameEngine s.nextCycle)).sampleChain s.lines := rfl
    _ = (frameEngine (frameView s.nextCycle)).sampleChain s.lines := by rw [frameView_frameEngine]

/-- Settles O43: the two states have one frame view, and a cycle in flight computes the next view from it. -/
theorem frameInFlightIsImmune : Obligations.FrameInFlightIsImmune := by
  intro s s' t t' hb hs' hr hr' h h'
  have hview : frameView s' = frameView s := by rw [hs']; rfl
  have hlines : s'.lines = s.lines := by rw [hs']; rfl
  have hb' : s'.busy = true := by rw [hs']; exact hb
  have hstep := step_frameView hb hr h
  have ht : frameView t' = frameView t := by
    rw [step_frameView hb' hr' h', hview, hlines, hstep]
  have hfield {α : Type} (f : State → α) : f (frameView t') = f (frameView t) := congrArg f ht
  have hsw : (frameView t).sw = s.sw := by
    rw [hstep]
    simp [frameEngine_keeps, frameView]
  exact ⟨hsw, hfield State.sw, hfield State.lines, hfield State.chain, hfield State.ph, hfield State.tmr,
    hfield State.busy, hfield State.idx⟩

end Sys2Proof.Machine
end

section
/-! PROOFS. LOCK over a run (R61, R202), and the one-cycle wait of a plain command (R226). -/

namespace Sys2Proof.Machine

theorem runCycles_succ {s t : State} (h : step s = .next t) (k : Nat) : runCycles (k + 1) s = runCycles k t := by
  have hc : Sys2Proof.core.step s = .next t := h
  have hrun : Sys2Proof.core.run (k + 1) s = Sys2Proof.core.run k t := by simp only [Host.Core.run, hc]
  exact hrun

theorem grant_ne_tick_of_lock {s : State} (h : s.lock = true) : grant s ≠ some .tick := fun hg => by
  have he := (grant_tick_inv hg).2
  simp [eligibleTick, h] at he

theorem step_lock {s t : State} (hr : s.now.rst = false) (hl : s.lock = true)
    (hg : grantedInstr s ≠ some (.lock false)) (hs : step s = .next t) : t.lock = true := by
  by_contra hne
  have hf : t.lock = false := by simpa using hne
  rw [step_next hr hs, State.sampleChain_lock] at hf
  have hi := (effect_writes (executedInstr s) (engineCycle s)).lock_writer (by simp [hf, hl])
  exact hg (grantedInstr_eq_of_executed (hi.trans (by rw [hf])) nofun)

/-- Settles O49, by induction on the number of cycles, from the first cycle on. -/
theorem lockHoldsTheTickPort : Obligations.LockHoldsTheTickPort := by
  intro n
  induction n with
  | zero =>
    intro s u hl _ hu
    obtain rfl := Host.Outcome.next.inj hu
    exact ⟨hl, grant_ne_tick_of_lock hl⟩
  | succ n ih =>
    intro s u hl hrun hu
    obtain ⟨hr, hg⟩ := hrun 0 s n.succ_pos rfl
    have hs := step_eq hr
    rw [runCycles_succ hs] at hu
    exact ih _ u (step_lock hr hl hg hs)
      (fun k v hk hv => hrun (k + 1) v (Nat.succ_lt_succ hk) ((runCycles_succ hs k).trans hv)) hu

/-- The sample of the next cycle is the one that follows this cycle's. -/
theorem step_now {s t : State} (hr : s.now.rst = false) (hs : step s = .next t) : t.now = inputAt s 1 := by
  have hin : t.inputs = s.inputs.tail := by rw [step_next hr hs]; simp
  rw [State.now, hin, inputAt]
  rcases s.inputs with _ | ⟨x, _ | ⟨y, l⟩⟩ <;> rfl

theorem now_eq_inputAt (s : State) : s.now = inputAt s 0 := by
  rw [State.now, inputAt]
  cases s.inputs <;> rfl

theorem step_rr {s t : State} (hr : s.now.rst = false) (hs : step s = .next t) : t.rr = turnAfter s := by
  rw [step_next hr hs]
  simp

theorem eligibleHost_of_plain {s : State} (hv : s.now.cmdValid = true) (hw : waitsForFrame s.now.cmd = false) :
    eligibleHost s = true := by
  simp [eligibleHost, hv, hw]

/-- Outside a reset an eligible host word is granted, or lost a contest to the tick port. -/
theorem grant_host_or_lost {s : State} (hr : s.now.rst = false) (he : eligibleHost s = true) :
    grant s = some .host ∨ (contest s = true ∧ s.rr = .tick) := by
  cases hc : contest s <;> cases ht : s.rr <;> simp [grant, hr, he, hc, ht]

/-- Settles O54: the host loses only a contest, RR then names it, and the next cycle's contest is its own. -/
theorem plainCommandWaitsAtMostOneCycle : Obligations.PlainCommandWaitsAtMostOneCycle := by
  intro s hno hv hw hhold
  have hr : s.now.rst = false := now_eq_inputAt s ▸ hno 0 (by omega)
  rcases grant_host_or_lost hr (eligibleHost_of_plain hv hw) with hg | ⟨hc, hturn⟩
  · exact .inl hg
  · have hlost : grant s ≠ some .host := by simp [grant, hr, hc, hturn]
    obtain ⟨hv', hcmd⟩ := hhold hv hlost
    have hs := step_eq hr
    refine .inr ⟨_, hs, ?_⟩
    generalize (effect (executedInstr s) (engineCycle s)).sampleChain s.lines = t at hs
    have hnow := step_now hr hs
    have hr' : t.now.rst = false := hnow ▸ hno 1 (by omega)
    have he : eligibleHost t = true := eligibleHost_of_plain (by rw [hnow, hv']) (by rw [hnow, hcmd, hw])
    have hturn' : t.rr = .host := by simp [step_rr hr hs, turnAfter, hc, hturn, Port.other]
    exact (grant_host_or_lost hr' he).resolve_right (by simp [hturn'])

end Sys2Proof.Machine
end

section
/-! PROOFS. The memory family (20_memory.md): a repeated buffer write, and with it a repeated command, changes nothing
more (R54). -/

namespace Sys2Proof.Machine

theorem putBit_putBit (mask : Byte) (p : Nat) (on : Bool) : putBit (putBit mask p on) p on = putBit mask p on := by
  apply BitVec.eq_of_getLsbD_eq
  intro i hi
  rw [putBit_getLsbD _ _ _ _ hi, putBit_getLsbD _ _ _ _ hi]
  split <;> rfl

theorem State.writeDigit_writeDigit (s : State) (p : Nibble) (v : Byte) :
    (s.writeDigit p v).writeDigit p v = s.writeDigit p v := by
  simp [State.writeDigit]

theorem State.writePoint_writePoint (s : State) (p : Nibble) (on : Bool) :
    (s.writePoint p on).writePoint p on = s.writePoint p on := by
  simp [State.writePoint, putBit_putBit]

/-- A write at a position, under the guard of SET_DIGIT and SET_DP: "less than NDIG", else nothing (R51). -/
def guardedWrite (pos : Nibble) (write : State → State) (s : State) : State :=
  if validPosition s pos then write s else s

/-- A write that keeps its position's validity passes the guard both times or neither time. -/
theorem guardedWrite_idem {pos : Nibble} {write : State → State} {s : State}
    (hvalid : validPosition (write s) pos = validPosition s pos) (hwrite : write (write s) = write s) :
    guardedWrite pos write (guardedWrite pos write s) = guardedWrite pos write s := by
  by_cases hv : validPosition s pos = true <;> simp [guardedWrite, hv, hvalid, hwrite]

theorem effect_setDigit (pos : Nibble) (val : Byte) :
    effect (.setDigit pos val) = guardedWrite pos (·.writeDigit pos val) := rfl

theorem effect_setDp (pos : Nibble) (on : Bool) :
    effect (.setDp pos on) = guardedWrite pos (·.writePoint pos on) := rfl

theorem effect_effect {i : Instr} (hi : i ≠ .tick) (s : State) : effect i (effect i s) = effect i s := by
  cases i with
  | tick => exact absurd rfl hi
  | setDigit pos val => rw [effect_setDigit, guardedWrite_idem rfl (s.writeDigit_writeDigit pos val)]
  | setDp pos on => rw [effect_setDp, guardedWrite_idem rfl (s.writePoint_writePoint pos on)]
  | _ => rfl

/-- Settles O21: the state the command leaves is its effect, which repeated changes nothing. -/
theorem commandsAreIdempotent : Obligations.CommandsAreIdempotent := by
  intro i s t hi h
  rw [exec_eq, exec_inv h, effect_effect hi]

end Sys2Proof.Machine
end

section
/-! PROOFS. The encoding family (30_encoding.md): a command word as its three fields, the decoder's rows as one
relation, and from them the round trips, the ignored bits and the decoder table. -/

namespace Sys2Proof

/-! ### A word is its three fields -/

theorem word_ext {w v : CmdWord} (hop : fieldOp w = fieldOp v) (hpos : fieldPos w = fieldPos v)
    (hbyte : fieldByte w = fieldByte v) : w = v := by
  have hop := congrArg BitVec.toNat hop
  have hpos := congrArg BitVec.toNat hpos
  have hbyte := congrArg BitVec.toNat hbyte
  rw [fieldOp_toNat, fieldOp_toNat] at hop
  rw [fieldPos_toNat, fieldPos_toNat] at hpos
  rw [fieldByte_toNat, fieldByte_toNat] at hbyte
  exact BitVec.eq_of_toNat_eq (by omega)

@[simp] theorem fieldOp_and (w m : CmdWord) : fieldOp (w &&& m) = fieldOp w &&& fieldOp m := BitVec.extractLsb'_and

@[simp] theorem fieldPos_and (w m : CmdWord) : fieldPos (w &&& m) = fieldPos w &&& fieldPos m := BitVec.extractLsb'_and

@[simp] theorem fieldByte_and (w m : CmdWord) : fieldByte (w &&& m) = fieldByte w &&& fieldByte m :=
  BitVec.extractLsb'_and

theorem fieldPolb_eq (w : CmdWord) : fieldPolb w = (fieldPos w).getLsbD 0 := by
  simp [fieldPolb, fieldPos]

theorem fieldBit0_eq (w : CmdWord) : fieldBit0 w = (fieldByte w).getLsbD 0 := by
  simp [fieldBit0, fieldByte]

/-! ### The fields of an encoding -/

/-- What the word of a command carries in cmd[11:8] (R71). -/
def Instr.posField : Instr → Nibble
  | .init polb _ => (BitVec.ofBool polb).setWidth 4
  | .setDigit pos _ => pos
  | .setDp pos _ => pos
  | _ => 0

/-- What the word of a command carries in cmd[7:0] (R71). -/
def Instr.byteField : Instr → Byte
  | .init _ cnt => cnt
  | .setDigit _ val => val
  | .setDp _ on => (BitVec.ofBool on).setWidth 8
  | .setBrightness pct => pct
  | .lock l => (BitVec.ofBool l).setWidth 8
  | _ => 0

theorem toNat_mod_of_bool (b : Bool) {n : Nat} (hn : 2 ≤ n) : b.toNat % n = b.toNat :=
  Nat.mod_eq_of_lt ((Bool.toNat_lt b).trans_le hn)

/-- The word of a command, well-formed or not: opcode, cmd[11:8] and cmd[7:0] as digits (R71). -/
theorem encode_toNat (i : Instr) :
    (encode i).toNat = i.opcode.toNat * 4096 + i.posField.toNat * 256 + i.byteField.toNat := by
  cases i with
  | nop => rfl
  | init polb cnt => simp [encode_init_toNat, Instr.opcode, Instr.posField, Instr.byteField, toNat_mod_of_bool]
  | setDigit pos val => simp [encode_setDigit_toNat, Instr.opcode, Instr.posField, Instr.byteField]
  | setDp pos on => simp [encode_setDp_toNat, Instr.opcode, Instr.posField, Instr.byteField, toNat_mod_of_bool]
  | clear => rfl
  | setBrightness pct => simp [encode_setBrightness_toNat, Instr.opcode, Instr.posField, Instr.byteField]
  | tick => rfl
  | lock l => simp [encode_lock_toNat, Instr.opcode, Instr.posField, Instr.byteField, toNat_mod_of_bool]
  | reserved op => simp [encode_reserved_toNat, Instr.opcode, Instr.posField, Instr.byteField]

@[simp] theorem fieldOp_encode (i : Instr) : fieldOp (encode i) = i.opcode :=
  BitVec.eq_of_toNat_eq (by rw [fieldOp_toNat, encode_toNat]; omega)

@[simp] theorem fieldPos_encode (i : Instr) : fieldPos (encode i) = i.posField :=
  BitVec.eq_of_toNat_eq (by rw [fieldPos_toNat, encode_toNat]; omega)

@[simp] theorem fieldByte_encode (i : Instr) : fieldByte (encode i) = i.byteField :=
  BitVec.eq_of_toNat_eq (by rw [fieldByte_toNat, encode_toNat]; omega)

/-! ### The rows of the decoder -/

/-- The decoder table of R73 as a relation: the opcode chooses the row, and the row names the fields it reads (R72). -/
inductive Decodes (w : CmdWord) : Instr → Prop
  | nop : fieldOp w = 0x0 → Decodes w .nop
  | init {polb : Bool} {cnt : Byte} : fieldOp w = 0x1 → fieldPolb w = polb → fieldByte w = cnt →
      Decodes w (.init polb cnt)
  | setDigit {pos : Nibble} {val : Byte} : fieldOp w = 0x2 → fieldPos w = pos → fieldByte w = val →
      Decodes w (.setDigit pos val)
  | setDp {pos : Nibble} {on : Bool} : fieldOp w = 0x3 → fieldPos w = pos → fieldBit0 w = on →
      Decodes w (.setDp pos on)
  | clear : fieldOp w = 0x4 → Decodes w .clear
  | setBrightness {pct : Byte} : fieldOp w = 0x5 → fieldByte w = pct → Decodes w (.setBrightness pct)
  | tick : fieldOp w = 0x6 → Decodes w .tick
  | lock {l : Bool} : fieldOp w = 0x7 → fieldBit0 w = l → Decodes w (.lock l)
  | reserved {op : Nibble} : 8 ≤ op.toNat → fieldOp w = op → Decodes w (.reserved op)

/-- The decoder answers by a row. -/
theorem decodes_decode (w : CmdWord) : Decodes w (decode w) := by
  have hop {k : Nat} (h : (fieldOp w).toNat = k) : fieldOp w = BitVec.ofNat 4 k := by
    rw [← h, BitVec.ofNat_toNat, BitVec.setWidth_eq]
  unfold decode
  split
  · next h => exact .nop (hop h)
  · next h => exact .init (hop h) rfl rfl
  · next h => exact .setDigit (hop h) rfl rfl
  · next h => exact .setDp (hop h) rfl rfl
  · next h => exact .clear (hop h)
  · next h => exact .setBrightness (hop h) rfl
  · next h => exact .tick (hop h)
  · next h => exact .lock (hop h) rfl
  · have hop8 : 8 ≤ (fieldOp w).toNat := by
      simp only [imp_false] at *
      omega
    exact .reserved hop8 rfl

/-- A row that takes the word gives the decoder's answer. -/
theorem Decodes.decode_eq {w : CmdWord} {i : Instr} (h : Decodes w i) : decode w = i := by
  cases h with
  | reserved hop hw =>
    subst hw
    unfold decode
    split
    case h_9 => rfl
    all_goals omega
  | _ => simp [decode, *]

theorem Decodes.wf {w : CmdWord} {i : Instr} (h : Decodes w i) : i.wf = true := by
  cases h with
  | reserved hop => exact decide_eq_true hop
  | _ => rfl

theorem decode_wf (w : CmdWord) : (decode w).wf = true := (decodes_decode w).wf

/-! ### The round trips -/

theorem decodes_encode {i : Instr} (h : i.wf = true) : Decodes (encode i) i := by
  have hop := fieldOp_encode i
  have hpos := fieldPos_encode i
  have hbyte := fieldByte_encode i
  cases i with
  | nop => exact .nop hop
  | init polb cnt => exact .init hop (by simp [fieldPolb_eq, Instr.posField]) hbyte
  | setDigit pos val => exact .setDigit hop hpos hbyte
  | setDp pos on => exact .setDp hop hpos (by simp [fieldBit0_eq, Instr.byteField])
  | clear => exact .clear hop
  | setBrightness pct => exact .setBrightness hop hbyte
  | tick => exact .tick hop
  | lock l => exact .lock hop (by simp [fieldBit0_eq, Instr.byteField])
  | reserved op => exact .reserved (of_decide_eq_true h) hop

/-- Settles O3: the row of the instruction's opcode takes its word, with the operands as the fields. -/
theorem decodeEncodeRoundTrip : Obligations.DecodeEncodeRoundTrip :=
  fun _ h => (decodes_encode h).decode_eq

theorem usedBits_of_reserved {w : CmdWord} (h : 8 ≤ (fieldOp w).toNat) : usedBits w = 0xF000 := by
  unfold usedBits
  split
  case h_6 => rfl
  all_goals omega

/-- The word with its ignored bits 0 has the fields of its decoding. -/
theorem Decodes.fields_usedBits {w : CmdWord} {i : Instr} (h : Decodes w i) :
    fieldOp w &&& fieldOp (usedBits w) = i.opcode ∧ fieldPos w &&& fieldPos (usedBits w) = i.posField ∧
    fieldByte w &&& fieldByte (usedBits w) = i.byteField := by
  have hones4 (x : Nibble) : x &&& 15#4 = x := BitVec.and_allOnes
  have hones8 (x : Byte) : x &&& 255#8 = x := BitVec.and_allOnes
  have hpos1 : fieldPos w &&& 1#4 = (BitVec.ofBool (fieldPolb w)).setWidth 4 := by
    rw [fieldPolb_eq, BitVec.and_one_eq_setWidth_ofBool_getLsbD]
  have hbyte1 : fieldByte w &&& 1#8 = (BitVec.ofBool (fieldBit0 w)).setWidth 8 := by
    rw [fieldBit0_eq, BitVec.and_one_eq_setWidth_ofBool_getLsbD]
  cases h with
  | nop hop | clear hop | tick hop =>
    rw [show usedBits w = 0xF000 by simp [usedBits, hop], hop]
    exact ⟨rfl, BitVec.and_zero, BitVec.and_zero⟩
  | init hop hpolb hcnt =>
    rw [show usedBits w = 0xF1FF by simp [usedBits, hop], hop]
    exact ⟨rfl, hpolb ▸ hpos1, hcnt ▸ hones8 _⟩
  | setDigit hop hpos hval =>
    rw [show usedBits w = 0xFFFF by simp [usedBits, hop], hop]
    exact ⟨rfl, hpos ▸ hones4 _, hval ▸ hones8 _⟩
  | setDp hop hpos hon =>
    rw [show usedBits w = 0xFF01 by simp [usedBits, hop], hop]
    exact ⟨rfl, hpos ▸ hones4 _, hon ▸ hbyte1⟩
  | setBrightness hop hpct =>
    rw [show usedBits w = 0xF0FF by simp [usedBits, hop], hop]
    exact ⟨rfl, BitVec.and_zero, hpct ▸ hones8 _⟩
  | lock hop hl =>
    rw [show usedBits w = 0xF001 by simp [usedBits, hop], hop]
    exact ⟨rfl, BitVec.and_zero, hl ▸ hbyte1⟩
  | reserved hop hw =>
    rw [usedBits_of_reserved (hw ▸ hop), hw]
    exact ⟨hones4 _, BitVec.and_zero, BitVec.and_zero⟩

theorem encode_decode (w : CmdWord) : encode (decode w) = w &&& usedBits w := by
  obtain ⟨hop, hpos, hbyte⟩ := (decodes_decode w).fields_usedBits
  exact word_ext (by simp [hop]) (by simp [hpos]) (by simp [hbyte])

/-- Settles O4: the two words have the same fields; the second part is the round trip of the decoding. -/
theorem encodeDecodeKeepsUsedBits : Obligations.EncodeDecodeKeepsUsedBits := by
  intro w
  refine ⟨encode_decode w, ?_⟩
  rw [← encode_decode, decodeEncodeRoundTrip _ (decode_wf w)]

/-! ### The decoder table -/

/-- A row's pattern and mask say nothing of the bits below the opcode. -/
theorem accepts_iff {r : OpcodeRow} (hr : r ∈ opcodeRows) (w : CmdWord) :
    r.accepts w = true ↔ fieldOp w &&& fieldOp r.mask = fieldOp r.pattern := by
  have hlow : ∀ r ∈ opcodeRows, (fieldPos r.mask = 0 ∧ fieldPos r.pattern = 0) ∧
      fieldByte r.mask = 0 ∧ fieldByte r.pattern = 0 := by decide
  obtain ⟨⟨hmpos, hppos⟩, hmbyte, hpbyte⟩ := hlow r hr
  rw [OpcodeRow.accepts, beq_iff_eq, ← fieldOp_and]
  exact ⟨congrArg fieldOp, fun hop => word_ext hop (by simp [hmpos, hppos]) (by simp [hmbyte, hpbyte])⟩

/-- No two rows of R73 match one opcode. -/
theorem opcodeRows_disjoint : ∀ op : Nibble, ∀ r ∈ opcodeRows, ∀ r' ∈ opcodeRows,
    op &&& fieldOp r.mask = fieldOp r.pattern → op &&& fieldOp r'.mask = fieldOp r'.pattern → r' = r := by decide

/-- The row of a command: its mnemonic, and a pattern that its opcode matches. -/
theorem exists_row {i : Instr} (h : i.wf = true) :
    ∃ r ∈ opcodeRows, r.mnemonic = i.mnemonic ∧ i.opcode &&& fieldOp r.mask = fieldOp r.pattern := by
  cases i with
  | reserved op =>
    have hop : ∀ op : Nibble, 8 ≤ op.toNat → op &&& 0x8 = 0x8 := by decide
    exact ⟨⟨"RESERVED", 0x8000, 0x8000⟩, by decide, rfl, hop op (of_decide_eq_true h)⟩
  | _ =>
    simp only [Instr.mnemonic, Instr.opcode]
    decide

/-- Settles O5: the row of the decoding accepts the word by its opcode, and no other row does. -/
theorem decoderTotalAndUnambiguous : Obligations.DecoderTotalAndUnambiguous := by
  intro w
  obtain ⟨r, hr, hname, hmatch⟩ := exists_row (decode_wf w)
  rw [Machine.decode_opcode] at hmatch
  refine ⟨decode_wf w, r, hr, (accepts_iff hr w).mpr hmatch, hname, fun r' hr' hacc => ?_⟩
  exact opcodeRows_disjoint _ r hr r' hr' hmatch ((accepts_iff hr' w).mp hacc)

/-- Settles O2: the decoder run on each word. -/
theorem wordsOfEveryRowDecode : Obligations.WordsOfEveryRowDecode := by
  unfold Obligations.WordsOfEveryRowDecode
  decide

end Sys2Proof
end

section
/-! PROOFS. The assembler (R75, R76): the word of a line in range is the encoding of the command the line names; and the
worked encodings of R77. -/

namespace Sys2Proof.Machine

/-- The fields of R75's column "word", put together with shifts and ORs, are the digits of one number. -/
theorem fields_or_eq_add {pos byte : Nat} (op : Nat) (hpos : pos ≤ 15) (hbyte : byte ≤ 255) :
    op <<< 12 ||| pos <<< 8 ||| byte = op * 4096 + pos * 256 + byte := by
  have hlow : pos <<< 8 ||| byte = pos * 256 + byte := by
    rw [← Nat.shiftLeft_add_eq_or_of_lt (show byte < 2 ^ 8 by omega), Nat.shiftLeft_eq]
  rw [Nat.or_assoc, hlow, ← Nat.shiftLeft_add_eq_or_of_lt (by omega), Nat.shiftLeft_eq]
  omega

/-- An assembled word is the encoding of a command when its fields are the command's. -/
theorem ofNat_fields_eq_encode {op pos byte : Nat} {i : Instr} (hop : op = i.opcode.toNat)
    (hpos : pos = i.posField.toNat) (hbyte : byte = i.byteField.toNat) :
    BitVec.ofNat cmdBits (op <<< 12 ||| pos <<< 8 ||| byte) = encode i := by
  subst hop hpos hbyte
  rw [fields_or_eq_add _ (by omega) (by omega), ← encode_toNat, BitVec.ofNat_toNat, BitVec.setWidth_eq]

/-- A line whose word in range is the encoding of a command decodes to it, and out of range is an error. -/
theorem asmWord_map_decode {inRange : Prop} [Decidable inRange] {w : Nat} {i : Instr} (hi : i.wf = true)
    (hw : inRange → BitVec.ofNat cmdBits w = encode i) :
    (asmWord (decide inRange) w).map decode = if inRange then some i else none := by
  by_cases h : inRange
  · simp [asmWord, h, hw h, decodeEncodeRoundTrip i hi]
  · simp [asmWord, h]

theorem toNat_decide_eq_one {l : Nat} (h : l ≤ 1) : (decide (l = 1)).toNat = l := by
  interval_cases l <;> rfl

theorem assemble_init_decode (ca : Bool) (n : Nat) :
    (assemble (.init ca n)).map decode = if n ≤ 255 then some (.init ca (BitVec.ofNat 8 n)) else none := by
  refine asmWord_map_decode rfl fun hn => ?_
  exact ofNat_fields_eq_encode (op := 1) rfl (by simp [Instr.posField, toNat_mod_of_bool])
    (by simp [Instr.byteField]; omega)

theorem setdWord_decode (p v : Nat) : (setdWord p v).map decode =
    if p ≤ 15 ∧ v ≤ 255 then some (.setDigit (BitVec.ofNat 4 p) (BitVec.ofNat 8 v)) else none := by
  refine asmWord_map_decode rfl fun ⟨hp, hv⟩ => ?_
  exact ofNat_fields_eq_encode (op := 2) rfl (by simp [Instr.posField]; omega) (by simp [Instr.byteField]; omega)

theorem setdpWord_decode (p on : Nat) : (setdpWord p on).map decode =
    if p ≤ 15 ∧ on ≤ 1 then some (.setDp (BitVec.ofNat 4 p) (decide (on = 1))) else none := by
  refine asmWord_map_decode rfl fun ⟨hp, hon⟩ => ?_
  exact ofNat_fields_eq_encode (op := 3) rfl (by simp [Instr.posField]; omega)
    (by simp [Instr.byteField, toNat_decide_eq_one hon]; omega)

theorem assemble_bright_decode (pct : Nat) : (assemble (.bright pct)).map decode =
    if pct ≤ 255 then some (.setBrightness (BitVec.ofNat 8 pct)) else none := by
  refine asmWord_map_decode rfl fun hpct => ?_
  exact ofNat_fields_eq_encode (op := 5) (pos := 0) rfl rfl (by simp [Instr.byteField]; omega)

theorem lockWord_decode (l : Nat) :
    (lockWord l).map decode = if l ≤ 1 then some (.lock (decide (l = 1))) else none := by
  refine asmWord_map_decode rfl fun hl => ?_
  exact ofNat_fields_eq_encode (op := 7) (pos := 0) rfl rfl
    (by simp [Instr.byteField, toNat_decide_eq_one hl]; omega)

/-- Settles O6: a line form each; a pseudo-instruction is defined as its expansion. -/
theorem assemblerAgreesWithDecoder : Obligations.AssemblerAgreesWithDecoder :=
  ⟨by decide, by decide, by decide, assemble_init_decode, setdWord_decode, setdpWord_decode, assemble_bright_decode,
    lockWord_decode, fun w => by simp [assemble, asmWord], rfl, fun _ => ⟨rfl, rfl, rfl, rfl⟩, fun _ _ => rfl⟩

theorem effect_setDigit_of_invalid {s : State} {pos : Nibble} (val : Byte) (h : s.ndig.toNat ≤ pos.toNat) :
    effect (.setDigit pos val) s = s := by
  simp [effect, validPosition, h]

theorem effect_setDp_of_valid {s : State} {pos : Nibble} (on : Bool) (h : pos.toNat < s.ndig.toNat) :
    effect (.setDp pos on) s = s.writePoint pos on := by
  simp [effect, validPosition, h]

/-- Settles O1: the words by running the assembler; of the decoded ones, 0x9ABC is reserved, position 15 is at or above
NDIG, and 0x31FE clears the point of a valid position. -/
theorem workedEncodings : Obligations.WorkedEncodings := by
  have hreserved : decode 0x9ABC = .reserved 9 := by decide
  have hdigit : decode 0x2FFF = .setDigit 15 255 := by decide
  have hpoint : decode 0x31FE = .setDp 1 false := by decide
  refine ⟨by decide, fun s => ?reserved, ⟨hdigit, fun s hn => ?digit⟩, hpoint, by decide, fun s hn => ?point⟩
  case reserved => rw [hreserved, exec_eq]; rfl
  case digit => rw [hdigit, exec_eq, effect_setDigit_of_invalid 255 (hn.trans (by decide))]
  case point => rw [hpoint, exec_eq, effect_setDp_of_valid (pos := 1) false hn]; rfl

end Sys2Proof.Machine
end

section
/-! PROOFS. A step with no frame in flight is one command (R224), and a TICK does the same from either port (R178). -/

namespace Sys2Proof.Machine

theorem sampleChain_of_lines_eq {s : State} {l : Lines} (h : s.lines = l) : s.sampleChain l = s := by
  rw [State.sampleChain, h, Chain.sample_same]

/-- With no frame in flight nothing moves the lines, so the chain does not either: the step is the command's effect. -/
theorem step_idle {s : State} (hr : s.now.rst = false) (hb : s.busy = false) :
    step s = .next (effect (executedInstr s) { s with inputs := s.inputs.tail, rr := turnAfter s }) := by
  obtain ⟨-, hlines, -⟩ := effect_keeps (executedInstr s) (s.nextCycle.setTurn (turnAfter s))
  rw [step_eq hr, engineCycle_idle hb, sampleChain_of_lines_eq (l := s.lines) hlines]
  rfl

theorem decode_tickWord : decode tickWord = .tick := by decide

theorem grantedInstr_tick {s : State} (h : grant s = some .tick) : grantedInstr s = some .tick := by
  simp [grantedInstr, h, grantedWord, decode_tickWord]

theorem grantedInstr_host {s : State} (h : grant s = some .host) : grantedInstr s = some (decode s.now.cmd) := by
  simp [grantedInstr, h, grantedWord]

/-- A host word with no rival, on an idle machine: the step is exec of what it decodes to, and RR stays. -/
theorem step_hostOnly {s : State} (hr : s.now.rst = false) (hv : s.now.cmdValid = true) (ht : s.now.tickReq = false)
    (hb : s.busy = false) : step s = exec (decode s.now.cmd) s.nextCycle := by
  have hg : grant s = some .host := by simp [grant, contest, eligibleHost, eligibleTick, hr, hv, ht, hb]
  have hturn : turnAfter s = s.rr := by simp [turnAfter, contest, eligibleTick, ht]
  rw [step_idle hr hb, executedInstr_eq_of_granted (grantedInstr_host hg), hturn, exec_eq]
  rfl

/-- Settles O46: the granted command is the executed one, on an idle machine or after the engine. -/
theorem stepRunsTheDecodedCommand : Obligations.StepRunsTheDecodedCommand := by
  refine ⟨?granted, fun s w rest hb => ?presented⟩
  case granted =>
    intro s p hg i
    have hi : grantedInstr s = some i := by
      cases p with
      | host => exact grantedInstr_host hg
      | tick => exact grantedInstr_tick hg
    have hr := not_rst_of_granted hi
    have he := executedInstr_eq_of_granted hi
    refine ⟨fun hb => ?_, effect i (engineCycle s), exec_eq _ _, ?_⟩
    · rw [step_idle hr hb, he, exec_eq]
    · rw [step_eq hr, he]
  case presented =>
    exact step_hostOnly (s := { s with inputs := { cmdValid := true, cmd := w } :: rest }) rfl rfl rfl hb

/-- TICK neither reads nor writes RR. -/
theorem effect_tick_setTurn (s : State) (p : Port) : effect .tick (s.setTurn p) = (effect .tick s).setTurn p := by
  simp only [effect, apply_ite (State.setTurn · p)]
  rfl

/-- The step of a granted TICK, the turn apart (R171, R178). -/
theorem step_tick {s : State} (h : grantedInstr s = some .tick) :
    step s = .next ((effect .tick s.nextCycle).setTurn (turnAfter s)) := by
  have he := executedInstr_eq_of_granted h
  have hb : s.busy = false := not_busy_of_executed_waits (by rw [he]; rfl)
  rw [step_idle (not_rst_of_granted h) hb, he, ← effect_tick_setTurn]
  rfl

/-- Settles O47: both steps are the TICK's effect on the same state, and only the turn tells them apart. -/
theorem bothPortsTickAlike : Obligations.BothPortsTickAlike := by
  intro s t1 t2 i1 i2 rest hg1 hd hg2 h1 h2
  have hi1 : grantedInstr { s with inputs := i1 :: rest } = some .tick :=
    (grantedInstr_host hg1).trans (congrArg some hd)
  have ht1 := Host.Outcome.next.inj (h1.symm.trans (step_tick hi1))
  have ht2 := Host.Outcome.next.inj (h2.symm.trans (step_tick (grantedInstr_tick hg2)))
  refine ⟨by rw [ht1, ht2]; rfl, fun hc1 hc2 => ?_⟩
  rw [ht1, ht2, turnAfter, turnAfter, hc1, hc2]
  rfl

end Sys2Proof.Machine
end

section
/-! PROOFS. The segment encoder (40_segment_encoder.md): what each bit of a pattern says, for every one-to-one SEG_BIT;
the glyphs of a legal configuration, which never light the point; the polarity stage; and the default table. -/

namespace Sys2Proof

/-! ### SEG_BIT is injective -/

/-- The eight segments, in the order in which `SegBit.oneToOne` lists their bits. -/
def Segment.all : List Segment := [.A, .B, .C, .D, .E, .F, .G, .DP]

theorem Segment.mem_all (seg : Segment) : seg ∈ Segment.all := by
  cases seg <;> decide

theorem SegBit.of_injective {m : SegBit} (h : m.oneToOne = true) : Function.Injective m.of := by
  have hnodup : (Segment.all.map m.of).Nodup := of_decide_eq_true h
  exact fun seg seg' => List.inj_on_of_nodup_map hnodup seg.mem_all seg'.mem_all

theorem Config.wf_segBit_injective {c : Config} (h : c.wf = true) : Function.Injective c.segBit.of := by
  obtain ⟨-, -, -, -, -, hseg, -⟩ := c.wf_iff.1 h
  exact SegBit.of_injective hseg

namespace Machine

/-! ### The bits of a pattern -/

theorem bitAt_getLsbD (k j : Fin 8) : (bitAt k).getLsbD j.val = decide (j = k) := by
  revert k j
  decide

/-- With a one-to-one SEG_BIT, a pattern lights the segments it is made of and no other (R100). -/
theorem patternOf_getLsbD {m : SegBit} (h : Function.Injective m.of) (lit : List Segment) (seg : Segment) :
    (patternOf m lit).getLsbD (m.of seg).val = decide (seg ∈ lit) := by
  induction lit with
  | nil => simp [patternOf]
  | cons first rest ih =>
    have hcons : patternOf m (first :: rest) = bitAt (m.of first) ||| patternOf m rest := rfl
    rw [hcons, BitVec.getLsbD_or, bitAt_getLsbD, ih]
    simp [h.eq_iff]

/-! ### The glyph of a code -/

theorem glyphOf_of_hex {c : Config} {code : Byte} (h : code.toNat < 16) : glyphOf c code = c.glyph.hex[code.toNat] :=
  dif_pos h

theorem glyphOf_dash {c : Config} (h : 16 ≤ c.codeDash.toNat) : glyphOf c c.codeDash = c.glyph.dash := by
  simp [glyphOf, Nat.not_lt.2 h]

theorem glyphOf_of_blank {c : Config} {code : Byte} (h : 16 ≤ code.toNat) (hd : code ≠ c.codeDash) :
    glyphOf c code = [] := by
  simp [glyphOf, Nat.not_lt.2 h, hd]

/-- No glyph of a legal configuration lights the point, the hexadecimal ones and the dash alike (R101). -/
theorem point_notMem_glyphOf {c : Config} (h : c.wf = true) (code : Byte) : Segment.DP ∉ glyphOf c code := by
  obtain ⟨-, -, -, -, -, -, hpoint, hdash, -⟩ := c.wf_iff.1 h
  simp only [Glyph.noPoint, Bool.and_eq_true, List.all_eq_true, Bool.not_eq_true', List.contains_eq_mem,
    decide_eq_false_iff_not] at hpoint
  obtain ⟨hhex, hpdash⟩ := hpoint
  by_cases hlt : code.toNat < 16
  · rw [glyphOf_of_hex hlt]
    exact hhex _ (Vector.mem_toList_iff.2 (Vector.getElem_mem hlt))
  · by_cases hd : code = c.codeDash
    · rwa [hd, glyphOf_dash hdash]
    · simp [glyphOf_of_blank (Nat.not_lt.1 hlt) hd]

theorem segRom_of_blank {c : Config} {code : Byte} (h : 16 ≤ code.toNat) (hd : code ≠ c.codeDash) :
    segRom c code = 0 := by
  rw [segRom, glyphOf_of_blank h hd]
  rfl

/-! ### CANON -/

@[simp] theorem canon_false (c : Config) (code : Byte) : canon c code false = segRom c code := BitVec.or_zero

/-- A bit of CANON is the glyph's, or the point's bit of a lit point (R103). -/
theorem canon_getLsbD {c : Config} (h : c.wf = true) (code : Byte) (dp : Bool) (seg : Segment) :
    (canon c code dp).getLsbD (c.segBit.of seg).val = (decide (seg ∈ glyphOf c code) || (dp && decide (seg = .DP))) := by
  have hinj := c.wf_segBit_injective h
  cases dp with
  | false =>
    rw [canon_false, segRom, patternOf_getLsbD hinj]
    simp
  | true =>
    rw [canon, segRom, BitVec.getLsbD_or, patternOf_getLsbD hinj, if_pos rfl, bitAt_getLsbD]
    simp [hinj.eq_iff]

/-- Settles O8: the bits of CANON, read for a segment that is not the point, for the point, and outside the table. -/
theorem canonicalPatternLightsTheGlyph : Obligations.CanonicalPatternLightsTheGlyph := by
  intro c code dp h
  refine ⟨fun seg hseg => ?_, ?_, segRom_of_blank⟩
  · rw [canon_getLsbD h]
    simp [hseg]
  · rw [canon_getLsbD h]
    simp [point_notMem_glyphOf h]

/-! ### The polarity stage -/

@[simp] theorem segWire_commonCathode (c : Config) (code : Byte) (dp : Bool) :
    segWire c code dp false = canon c code dp := rfl

@[simp] theorem segWire_commonAnode (c : Config) (code : Byte) (dp : Bool) :
    segWire c code dp true = ~~~(canon c code dp) := rfl

/-- Settles O9: each wire byte is CANON or its complement, and the complement of all ones is 0. -/
theorem polarityComplements : Obligations.PolarityComplements := by
  refine ⟨fun c code dp => ⟨by simp, segWire_commonCathode c code dp, fun hall => ?_⟩, by decide, by decide⟩
  rw [segWire_commonAnode, hall]
  decide

/-! ### The default table -/

/-- Settles O7: the eighteen rows by evaluation, every further code as BLANK. -/
theorem segmentRomTable : Obligations.SegmentRomTable := by
  refine ⟨by decide, by decide, fun code h => ?_⟩
  have hd : code ≠ ({} : Config).codeDash := by
    rintro rfl
    exact absurd h (by decide)
  have hblank : segRom {} code = 0 := segRom_of_blank (by omega) hd
  exact ⟨hblank, by rw [segWire_commonAnode, canon_false, hblank]; decide⟩

end Machine

end Sys2Proof
end

section
/-! PROOFS. The digit-select encoder (41_digit_select.md): the two lines of SELROM (R121), for a position of any 8-bit
value. -/

namespace Sys2Proof.Machine

/-- A valid position is one of the eight bits of the select byte, and the byte clears that bit alone (R122). -/
theorem selRom_getLsbD_of_valid {p : Byte} {n : BitVec 4} (hn : n.toNat ≤ 8) (h : p.toNat < n.toNat) {i : Nat}
    (hi : i < 8) : (selRom p n).getLsbD i = decide (i ≠ p.toNat) := by
  have hbit : (selRom (BitVec.ofNat 8 p.toNat) n).getLsbD i = decide ((⟨i, hi⟩ : Fin 8) ≠ ⟨p.toNat, h.trans_le hn⟩) :=
    selRom_selectsOnly (p := ⟨p.toNat, h.trans_le hn⟩) h ⟨i, hi⟩
  simpa using hbit

/-- A position at or above the count selects no digit (R120). -/
theorem selRom_of_invalid {p : Byte} {n : BitVec 4} (h : n.toNat ≤ p.toNat) : selRom p n = 0xFF :=
  if_neg (Nat.not_lt.2 h)

/-- Settles O10: the bits of a valid position's byte, and the byte of an invalid one. -/
theorem selectByteOneHotActiveLow : Obligations.SelectByteOneHotActiveLow :=
  fun _ _ hn => ⟨fun h _ hi => selRom_getLsbD_of_valid hn h hi, selRom_of_invalid⟩

end Sys2Proof.Machine
end

section
/-! PROOFS. The lines in one cycle (42_serial_driver.md R141, R142, R146): they stay, or take one event of R142's table;
and the chain's sampling of them (R151). -/

namespace Sys2Proof.Machine

/-! ### The lines after a cycle -/

/-- In the cycle of an event the engine drives the lines by it (R143). -/
theorem engineCycle_lines_event {s : State} (hb : s.busy = true) (ht : s.tmr = 0) :
    (engineCycle s).lines = (lineEvent s.sw s.ph).drive s.lines := by
  rcases frameEngine_cases s.nextCycle with ⟨hi, -⟩ | ⟨-, hc, -⟩ | ⟨-, -, -, he⟩ | ⟨-, -, -, he⟩
  · exact absurd (hb.symm.trans hi) Bool.noConfusion
  · exact absurd ht hc
  · rw [engineCycle, he]; rfl
  · rw [engineCycle, he]; rfl

/-- The engine alone writes the lines: those after a cycle without reset are those it leaves. -/
theorem step_lines {s t : State} (hr : s.now.rst = false) (hs : step s = .next t) :
    t.lines = (engineCycle s).lines := by
  obtain ⟨-, hlines, -⟩ := effect_keeps (executedInstr s) (engineCycle s)
  rw [step_next hr hs]
  exact hlines

theorem step_lines_event {s t : State} (hr : s.now.rst = false) (hs : step s = .next t) (hb : s.busy = true)
    (ht : s.tmr = 0) : t.lines = (lineEvent s.sw s.ph).drive s.lines :=
  (step_lines hr hs).trans (engineCycle_lines_event hb ht)

theorem step_lines_quiet {s t : State} (hr : s.now.rst = false) (hs : step s = .next t)
    (h : ¬ (s.busy = true ∧ s.tmr = 0)) : t.lines = s.lines :=
  (step_lines hr hs).trans (engineCycle_lines h)

/-! ### R142's table by event number -/

theorem lineEvent_data {sw : FrameWord} {k : Fin 50} {j : Nat} (hj : j < 16) (hk : k.val = 3 * j) :
    lineEvent sw k = .data (shiftBit sw j) := by
  have hdiv : k.val / 3 = j := by omega
  rw [lineEvent, if_neg (by omega), if_neg (by omega), if_pos (by omega), hdiv]

theorem lineEvent_clk_high {sw : FrameWord} {k : Fin 50} {j : Nat} (hj : j < 16) (hk : k.val = 3 * j + 1) :
    lineEvent sw k = .clk true := by
  rw [lineEvent, if_neg (by omega), if_neg (by omega), if_neg (by omega), if_pos (by omega)]

theorem lineEvent_clk_low {sw : FrameWord} {k : Fin 50} {j : Nat} (hk : k.val = 3 * j + 2) :
    lineEvent sw k = .clk false := by
  rw [lineEvent, if_neg (by omega), if_neg (by omega), if_neg (by omega), if_neg (by omega)]

theorem lineEvent_stb_high {sw : FrameWord} {k : Fin 50} (hk : k.val = 48) : lineEvent sw k = .stb true := if_pos hk

theorem lineEvent_stb_low {sw : FrameWord} {k : Fin 50} (hk : k.val = 49) : lineEvent sw k = .stb false := by
  rw [lineEvent, if_neg (by omega), if_pos hk]

/-- Settles O32: the lines are driven by the event of R142's table, or stay. -/
theorem lineEventsInOrder : Obligations.LineEventsInOrder := by
  intro s t hr hs
  refine ⟨fun hb ht => ?_, step_lines_quiet hr hs⟩
  rw [step_lines_event hr hs hb ht]
  refine ⟨fun j hj => ⟨fun hk => ?_, fun hk => ?_, fun hk => ?_⟩, fun hk => ?_, fun hk => ?_⟩
  · rw [lineEvent_data hj hk]; rfl
  · rw [lineEvent_clk_high hj hk]; rfl
  · rw [lineEvent_clk_low hk]; rfl
  · rw [lineEvent_stb_high hk]; rfl
  · rw [lineEvent_stb_low hk]; rfl

/-! ### One line at a time -/

/-- R146(e) for two levels of the lines: one line changes at most, DATA only with CLK low, CLK only with STB low, and
STB only with CLK low. -/
def ChangesOneLine (l l' : Lines) : Prop :=
  (l'.data ≠ l.data → l'.clk = l.clk ∧ l'.stb = l.stb ∧ l.clk = false) ∧
  (l'.clk ≠ l.clk → l'.data = l.data ∧ l'.stb = l.stb ∧ l.stb = false) ∧
  (l'.stb ≠ l.stb → l'.data = l.data ∧ l'.clk = l.clk ∧ l.clk = false)

theorem changesOneLine_refl (l : Lines) : ChangesOneLine l l :=
  ⟨fun h => absurd rfl h, fun h => absurd rfl h, fun h => absurd rfl h⟩

/-- Each event writes one line, and finds the line that must be low at its level of R146. -/
theorem LevelsBefore.changesOneLine {sw : FrameWord} {k : Fin 50} {l : Lines} (h : LevelsBefore sw k.val l) :
    ChangesOneLine l ((lineEvent sw k).drive l) := by
  have hclk (hk : k.val % 3 ≠ 2 ∨ 48 ≤ k.val) : l.clk = false := by rw [h.clk]; simp; omega
  have hstb (hk : k.val ≠ 49) : l.stb = false := by rw [h.stb]; simp [hk]
  rcases lineEvent_cases sw k with ⟨j, -, hk, he⟩ | ⟨j, hj, hk, he⟩ | ⟨j, hj, hk, he⟩ | ⟨hk, he⟩ | ⟨hk, he⟩ <;>
    rw [he]
  · simp [ChangesOneLine, LineEvent.drive, hclk (by omega)]
  · simp [ChangesOneLine, LineEvent.drive, hstb (by omega)]
  · simp [ChangesOneLine, LineEvent.drive, hstb (by omega)]
  · simp [ChangesOneLine, LineEvent.drive, hclk (by omega)]
  · simp [ChangesOneLine, LineEvent.drive, hclk (by omega)]

/-- Settles O34: the lines stay, or an event changes one of them. -/
theorem linesChangeOneAtATime : Obligations.LinesChangeOneAtATime := by
  intro s t h hr hs
  have hone : ChangesOneLine s.lines t.lines := by
    by_cases hev : s.busy = true ∧ s.tmr = 0
    · rw [step_lines_event hr hs hev.1 hev.2]
      exact (h.lines.levels hev.1).changesOneLine
    · rw [step_lines_quiet hr hs hev]
      exact changesOneLine_refl s.lines
  exact hone

/-! ### The chain in one cycle -/

/-- The chain samples the change of the lines over a cycle without reset (R151). -/
theorem step_chain {s t : State} (hr : s.now.rst = false) (hs : step s = .next t) :
    t.chain = s.chain.sample s.cfg s.lines t.lines := by
  rw [step_lines hr hs, step_next hr hs]
  simp

theorem Chain.sample_latched {cfg : Config} {c : Chain} {l l' : Lines} (h : crosses cfg.latchEdge l.stb l'.stb = true) :
    (c.sample cfg l l').qn = c.sr.extractLsb' 0 8 ∧ (c.sample cfg l l').qf = c.sr.extractLsb' 8 8 :=
  ⟨if_pos h, if_pos h⟩

theorem Chain.sample_not_latched {cfg : Config} {c : Chain} {l l' : Lines}
    (h : crosses cfg.latchEdge l.stb l'.stb = false) :
    (c.sample cfg l l').qn = c.qn ∧ (c.sample cfg l l').qf = c.qf := by
  simp [Chain.sample, h]

theorem Chain.sample_shifted {cfg : Config} {c : Chain} {l l' : Lines} (h : crosses cfg.shiftEdge l.clk l'.clk = true) :
    (c.sample cfg l l').sr = c.sr.extractLsb' 0 15 ++ BitVec.ofBool l'.data := if_pos h

theorem Chain.sample_not_shifted {cfg : Config} {c : Chain} {l l' : Lines}
    (h : crosses cfg.shiftEdge l.clk l'.clk = false) : (c.sample cfg l l').sr = c.sr := by
  simp [Chain.sample, h]

theorem resetCycle_lines (s : State) : (resetCycle s).lines = ⟨false, false, false⟩ := by
  rw [resetCycle_eq]
  rfl

/-- Settles O40: a cycle without reset samples the lines, a reset samples their fall, and only a reset with a frame in
flight draws new stages. -/
theorem chainChangesOnlyAtItsEdges : Obligations.ChainChangesOnlyAtItsEdges := by
  intro s t hs
  rcases step_cases hs with ⟨hr, rfl⟩ | ⟨hr, -⟩
  · obtain ⟨hqn, hqf⟩ := resetCycle_latched s
    have hlines := resetCycle_lines s
    have hclk : (resetCycle s).clk = false := congrArg Lines.clk hlines
    have hstb : (resetCycle s).stb = false := congrArg Lines.stb hlines
    rw [hqn, hqf, resetCycle_stages, hclk, hstb]
    refine ⟨fun hlatch => Chain.sample_not_latched hlatch, fun hidle hshift => ?_⟩
    have hb : s.busy = false := hidle.resolve_left (by simp [hr])
    rw [if_neg (by simp [hb])]
    exact Chain.sample_not_shifted hshift
  · rw [step_chain hr hs]
    exact ⟨fun hlatch => Chain.sample_not_latched hlatch, fun _ hshift => Chain.sample_not_shifted hshift⟩

end Sys2Proof.Machine
end

section
/-! PROOFS. The external chain through a frame (R151, R152): its stages hold the bits shifted so far, it latches the
whole frame at its edge of STB, and so it enables one digit from then on (R154). -/

namespace Sys2Proof.Machine

/-! ### The shift stages -/

/-- The first `n` bits of the frame stand in the first `n` stages, the latest in stage 0 (R141, R151). -/
def StagesHold (sr : BitVec 16) (sw : FrameWord) (n : Nat) : Prop :=
  ∀ j, j < n → sr.getLsbD (n - 1 - j) = shiftBit sw j

/-- A shift that takes bit `n` (R151). -/
theorem StagesHold.shift {sr : BitVec 16} {sw : FrameWord} {n : Nat} (h : StagesHold sr sw n) (hn : n < 16) :
    StagesHold (sr.extractLsb' 0 15 ++ BitVec.ofBool (shiftBit sw n)) sw (n + 1) := by
  intro j hj
  rw [BitVec.getLsbD_append]
  rcases Nat.lt_succ_iff_lt_or_eq.1 hj with hlt | rfl
  · have hidx : n + 1 - 1 - j - 1 = n - 1 - j := by omega
    have hstage : n - 1 - j < 15 := by omega
    rw [if_neg (by omega), hidx, BitVec.getLsbD_extractLsb', ← h j hlt]
    simp [hstage]
  · simp

/-- Sixteen bits fill the stages: SR = SW (R152). -/
theorem StagesHold.eq_of_full {sr : BitVec 16} {sw : FrameWord} (h : StagesHold sr sw 16) : sr = sw := by
  apply BitVec.eq_of_getLsbD_eq
  intro i hi
  have hbit := h (15 - i) (by omega)
  have hi' : 15 - (15 - i) = i := by omega
  simpa [shiftBit, hi'] using hbit

/-- All bits are shifted in when the strobe is due, whichever edge of CLK shifts. -/
theorem shiftsDone_strobe (e : Edge) {k : Nat} (h : 48 ≤ k) (hk : k < 50) : shiftsDone e k = 16 := by
  cases e <;> simp only [shiftsDone] <;> omega

/-- Event `k` either shifts in the next bit of the frame, or shifts nothing. -/
theorem LevelsBefore.shiftsDone_succ {sw : FrameWord} {k : Fin 50} {l : Lines} (h : LevelsBefore sw k.val l)
    (hk : k.val < 49) (e : Edge) :
    let l' := (lineEvent sw k).drive l
    (crosses e l.clk l'.clk = true ∧ shiftsDone e (k.val + 1) = shiftsDone e k.val + 1 ∧ shiftsDone e k.val < 16 ∧
      l'.data = shiftBit sw (shiftsDone e k.val)) ∨
    (crosses e l.clk l'.clk = false ∧ shiftsDone e (k.val + 1) = shiftsDone e k.val) := by
  intro l'
  have hclk' : l'.clk = decide ((k.val + 1) % 3 = 2 ∧ k.val + 1 < 48) := (h.drive hk).clk
  have hdata' : l'.data = shiftBit sw (min (k.val / 3) 15) := (h.drive hk).data (by omega)
  rw [h.clk, hclk', hdata']
  cases e with
  | rising =>
    by_cases hm : k.val % 3 = 1
    · have hmin : min (k.val / 3) 15 = (k.val + 1) / 3 := by omega
      refine .inl ⟨?_, ?_, ?_, congrArg _ hmin⟩ <;> simp [crosses, shiftsDone] <;> omega
    · refine .inr ⟨?_, ?_⟩ <;> simp [crosses, shiftsDone] <;> omega
  | falling =>
    by_cases hm : k.val % 3 = 2
    · have hmin : min (k.val / 3) 15 = k.val / 3 := by omega
      refine .inl ⟨?_, ?_, ?_, congrArg _ hmin⟩ <;> simp [crosses, shiftsDone] <;> omega
    · refine .inr ⟨?_, ?_⟩ <;> simp [crosses, shiftsDone] <;> omega

/-- The stages follow event `k` to the next (R151). -/
theorem StagesHold.sample {cfg : Config} {c : Chain} {sw : FrameWord} {k : Fin 50} {l : Lines}
    (h : StagesHold c.sr sw (shiftsDone cfg.shiftEdge k.val)) (hl : LevelsBefore sw k.val l) (hk : k.val < 49) :
    StagesHold (c.sample cfg l ((lineEvent sw k).drive l)).sr sw (shiftsDone cfg.shiftEdge (k.val + 1)) := by
  rcases hl.shiftsDone_succ hk cfg.shiftEdge with ⟨hc, hsucc, hlt, hdata⟩ | ⟨hc, hsame⟩
  · rw [Chain.sample_shifted hc, hsucc, hdata]
    exact h.shift hlt
  · rw [Chain.sample_not_shifted hc, hsame]
    exact h

theorem ChainFollowsFrame.stages {s : State} (h : ChainFollowsFrame s) (hb : s.busy = true) :
    StagesHold s.chain.sr s.sw (shiftsDone s.cfg.shiftEdge s.ph.val) := h.shifted hb

theorem ChainFollowsFrame.sr_eq {s : State} (h : ChainFollowsFrame s) (hb : s.busy = true) (hk : 48 ≤ s.ph.val) :
    s.chain.sr = s.sw := by
  have hstages := h.stages hb
  rw [shiftsDone_strobe _ hk s.ph.isLt] at hstages
  exact hstages.eq_of_full

/-! ### The latch -/

/-- A latch takes the stages as they stood, QF the upper half (R151). -/
theorem Chain.sample_latched_append {cfg : Config} {c : Chain} {l l' : Lines}
    (h : crosses cfg.latchEdge l.stb l'.stb = true) : (c.sample cfg l l').qf ++ (c.sample cfg l l').qn = c.sr := by
  obtain ⟨hqn, hqf⟩ := Chain.sample_latched (c := c) h
  rw [hqn, hqf]
  exact BitVec.extractLsb'_append_extractLsb' (w := 8)

theorem crosses_self (e : Edge) (b : Bool) : crosses e b b = false := by
  cases e <;> cases b <;> rfl

/-- A chain latches at event 48 or 49 only (R142). -/
theorem strobe_of_latch {sw : FrameWord} {k : Fin 50} {l : Lines} {e : Edge}
    (h : crosses e l.stb ((lineEvent sw k).drive l).stb = true) : 48 ≤ k.val := by
  rcases lineEvent_cases sw k with ⟨j, -, -, he⟩ | ⟨j, -, -, he⟩ | ⟨j, -, -, he⟩ | ⟨hk, -⟩ | ⟨hk, -⟩
  · simp [he, LineEvent.drive, crosses_self] at h
  · simp [he, LineEvent.drive, crosses_self] at h
  · simp [he, LineEvent.drive, crosses_self] at h
  · omega
  · omega

/-- A chain that latches on the rising edge does so at event 48, with all bits in. -/
theorem ChainFollowsFrame.latch {s : State} (h : ChainFollowsFrame s) (hl : LinesFollowFrame s) (hb : s.busy = true)
    (hedge : s.cfg.latchEdge = .rising) (hk : s.ph.val = 48) :
    let c := s.chain.sample s.cfg s.lines ((lineEvent s.sw s.ph).drive s.lines)
    c.qf ++ c.qn = s.sw := by
  have hlow : s.lines.stb = false := (hl.stb hb).trans (by simp [hk])
  have hlatch : crosses s.cfg.latchEdge s.lines.stb ((lineEvent s.sw s.ph).drive s.lines).stb = true := by
    rw [hedge, lineEvent_stb_high hk, hlow]
    rfl
  exact (Chain.sample_latched_append hlatch).trans (h.sr_eq hb hk.ge)

/-! ### Every cycle -/

theorem chainFollowsFrame_frameEngine {s : State} (h : ChainFollowsFrame s) (hl : LinesFollowFrame s) :
    ChainFollowsFrame ((frameEngine s).sampleChain s.lines) := by
  rcases frameEngine_cases s with ⟨-, he⟩ | ⟨hb, ht, he⟩ | ⟨hb, ht, hp, he⟩ | ⟨hb, ht, hp, he⟩ <;> rw [he]
  · rw [sampleChain_of_lines_eq rfl]
    exact h
  · have hsame : s.countDown.sampleChain s.lines = s.countDown := sampleChain_of_lines_eq rfl
    rw [hsame]
    exact { h with }
  · have hk : s.ph.val < 49 := by omega
    have hnext : (s.ph + 1).val = s.ph.val + 1 := by omega
    have hstages := (h.stages hb).sample (hl.levels hb) hk
    rw [← hnext] at hstages
    exact {
      shifted := fun _ => hstages
      latched := fun _ hedge h49 => h.latch hl hb hedge (Nat.succ.inj (hnext.symm.trans h49)) }
  · exact chainFollowsFrame_of_idle rfl

/-- A TICK starts a frame of which no bit is shifted yet; no other command touches the frame. -/
theorem CommandWrites.chainFollowsFrame {i : Instr} {s t : State} (hw : CommandWrites s i t)
    (h : ChainFollowsFrame s) : ChainFollowsFrame t := by
  cases hw with
  | tick hn =>
    have hnone : ∀ e, shiftsDone e 0 = 0 := fun e => by cases e <;> rfl
    exact {
      shifted := fun _ j hj => absurd hj (by simp [hnone])
      latched := fun _ _ h49 => nomatch h49 }
  | _ => exact { h with }

/-- The chain's sampling and the command of a cycle do not meet: no command reads the chain or writes the lines. -/
theorem effect_sampleChain (i : Instr) (s : State) (l : Lines) :
    (effect i s).sampleChain l = effect i (s.sampleChain l) := by
  cases i with
  | setDigit pos val => exact apply_ite (State.sampleChain · l) _ _ _
  | setDp pos on => exact apply_ite (State.sampleChain · l) _ _ _
  | tick => exact apply_ite (State.sampleChain · l) _ _ _
  | _ => rfl

theorem step_chainFollowsFrame {s t : State} (h : ChainFollowsFrame s) (hl : LinesFollowFrame s)
    (hs : step s = .next t) : ChainFollowsFrame t := by
  rcases step_cases hs with ⟨-, rfl⟩ | ⟨-, rfl⟩
  · exact chainFollowsFrame_of_idle (by rw [resetCycle_eq]; rfl)
  · have he : ChainFollowsFrame ((engineCycle s).sampleChain s.lines) :=
      { chainFollowsFrame_frameEngine (s := s.nextCycle) { h with } { hl with } with }
    rw [effect_sampleChain]
    exact (effect_writes _ _).chainFollowsFrame he

/-- Settles O31: an event shifts in the next bit or latches the frame, and a TICK starts with no bit in. -/
theorem chainFollowsFrameIsInvariant : Obligations.ChainFollowsFrameIsInvariant :=
  fun _ _ h => step_chainFollowsFrame h.chain h.lines

/-- Every cycle keeps a state sound, resets included. -/
theorem step_sound {s t : State} (h : Sound s) (hs : step s = .next t) : Sound t where
  legal := step_legal h.legal hs
  lines := step_linesFollowFrame h.lines hs
  chain := step_chainFollowsFrame h.chain h.lines hs

/-! ### One digit enabled -/

/-- What a chain latches is the frame's select byte. -/
theorem step_latch {s t : State} (h : Sound s) (hr : s.now.rst = false) (hs : step s = .next t)
    (hlatch : crosses s.cfg.latchEdge s.stb t.stb = true) :
    s.busy = true ∧ t.chain.qn = s.sw.extractLsb' 0 8 := by
  have hqn := (Chain.sample_latched (c := s.chain) (l := s.lines) (l' := t.lines) hlatch).1
  rw [← step_chain hr hs] at hqn
  by_cases hev : s.busy = true ∧ s.tmr = 0
  · obtain ⟨hb, ht⟩ := hev
    have hstb : t.stb = ((lineEvent s.sw s.ph).drive s.lines).stb := congrArg Lines.stb (step_lines_event hr hs hb ht)
    have hk : 48 ≤ s.ph.val := strobe_of_latch (l := s.lines) (hstb ▸ hlatch)
    exact ⟨hb, by rw [hqn, h.chain.sr_eq hb hk]⟩
  · have hstb : t.stb = s.stb := congrArg Lines.stb (step_lines_quiet hr hs hev)
    rw [hstb, crosses_self] at hlatch
    exact absurd hlatch Bool.false_ne_true

theorem step_latch_oneDigit {s t : State} (h : Sound s) (hr : s.now.rst = false) (hs : step s = .next t)
    (hlatch : crosses s.cfg.latchEdge s.stb t.stb = true) : OneDigit t.chain.qn := by
  obtain ⟨hb, hqn⟩ := step_latch h hr hs hlatch
  exact hqn ▸ h.legal.select (.inl hb)

/-- R154, strengthened by the soundness that the next latch needs. -/
theorem frameLatched_sound_oneDigit {s : State} (h : FrameLatched s) : Sound s ∧ OneDigit s.chain.qn := by
  induction h with
  | strobe hsound hr hs hlatch => exact ⟨step_sound hsound hs, step_latch_oneDigit hsound hr hs hlatch⟩
  | @later s t _ hr _ hs ih =>
    obtain ⟨hsound, ho⟩ := ih
    refine ⟨step_sound hsound hs, ?_⟩
    cases hc : crosses s.cfg.latchEdge s.stb t.stb with
    | true => exact step_latch_oneDigit hsound hr hs hc
    | false =>
      obtain ⟨hqn, -⟩ := (chainChangesOnlyAtItsEdges s t hs).1 hc
      rwa [hqn]

/-- Settles O41, by induction on the run since the first latch. -/
theorem oneDigitEnabledInSteadyState : Obligations.OneDigitEnabledInSteadyState :=
  fun _ h _ => (frameLatched_sound_oneDigit h).2

end Sys2Proof.Machine
end

section
/-! PROOFS. A whole frame (R144, R152, R172): from its TICK's grant each cycle brings the engine one cycle closer to the
frame's end, and at the end the chain holds the snapshot. -/

namespace Sys2Proof.Machine

/-! ### Runs -/

theorem step_total (s : State) : ∃ t, step s = .next t := by
  cases hr : s.now.rst with
  | true => exact ⟨resetCycle s, by simp [step, cycle, hr]⟩
  | false => exact ⟨_, step_eq hr⟩

theorem runCycles_append {n : Nat} {s u v : State} (hu : runCycles n s = .next u) (hv : step u = .next v) :
    runCycles (n + 1) s = .next v := by
  induction n generalizing s with
  | zero =>
    obtain rfl := Host.Outcome.next.inj hu
    exact runCycles_succ hv 0
  | succ n ih =>
    obtain ⟨t, ht⟩ := step_total s
    rw [runCycles_succ ht] at hu ⊢
    exact ih hu

/-- What every cycle keeps, a run keeps. -/
theorem runCycles_keeps {p : State → Prop} (hstep : ∀ {s t}, p s → step s = .next t → p t) {n : Nat} {s u : State}
    (h : p s) (hu : runCycles n s = .next u) : p u := by
  induction n generalizing s with
  | zero =>
    obtain rfl := Host.Outcome.next.inj hu
    exact h
  | succ n ih =>
    obtain ⟨t, ht⟩ := step_total s
    rw [runCycles_succ ht] at hu
    exact ih (hstep h ht) hu

theorem step_inputs {s t : State} (hs : step s = .next t) : t.inputs = s.inputs.tail := by
  rcases step_cases hs with ⟨-, rfl⟩ | ⟨-, rfl⟩
  · rw [resetCycle_eq]
    rfl
  · simp

theorem runCycles_inputs {n : Nat} {s u : State} (hu : runCycles n s = .next u) : u.inputs = s.inputs.drop n := by
  induction n generalizing s with
  | zero =>
    obtain rfl := Host.Outcome.next.inj hu
    rfl
  | succ n ih =>
    obtain ⟨t, ht⟩ := step_total s
    rw [runCycles_succ ht] at hu
    rw [ih hu, step_inputs ht, List.drop_tail]

theorem runCycles_now {n : Nat} {s u : State} (hu : runCycles n s = .next u) : u.now = inputAt s n := by
  rw [State.now, runCycles_inputs hu, inputAt, List.headD_eq_head?_getD, List.head?_drop, List.getD_eq_getElem?_getD]

/-! ### The cycles left of a frame -/

theorem frameCyclesLeft_of_busy {s : State} (hb : s.busy = true) :
    frameCyclesLeft s = s.tmr + (49 - s.ph.val) * s.cfg.phaseCycles + 1 := if_pos hb

theorem busy_iff_frameCyclesLeft_pos {s : State} : s.busy = true ↔ 0 < frameCyclesLeft s := by
  cases hb : s.busy <;> simp [frameCyclesLeft, hb]

/-- Event `k` is due just when the events after it, a phase each, are left. -/
theorem event_due_of_cyclesLeft {s : State} (h : Legal s) (hb : s.busy = true) {k : Fin 50}
    (hleft : frameCyclesLeft s = (49 - k.val) * s.cfg.phaseCycles + 1) : s.tmr = 0 ∧ s.ph = k := by
  rw [frameCyclesLeft_of_busy hb] at hleft
  have hlt := h.timer
  have hsum : s.tmr + (49 - s.ph.val) * s.cfg.phaseCycles = (49 - k.val) * s.cfg.phaseCycles := by omega
  have hmod := congrArg (· % s.cfg.phaseCycles) hsum
  have ht : s.tmr = 0 := by simpa [Nat.mod_eq_of_lt hlt] using hmod
  rw [ht, Nat.zero_add] at hsum
  have hphase := Nat.eq_of_mul_eq_mul_right (Nat.zero_lt_of_lt hlt) hsum
  exact ⟨ht, by omega⟩

/-- Every cycle of the engine in flight takes one from the cycles left (R143). -/
theorem frameCyclesLeft_engineCycle {s : State} (h : Legal s) (hb : s.busy = true) :
    frameCyclesLeft (engineCycle s) + 1 = frameCyclesLeft s := by
  have hP := h.timer
  rcases frameEngine_cases s.nextCycle with ⟨hi, -⟩ | ⟨-, ht, he⟩ | ⟨-, ht, hp, he⟩ | ⟨-, ht, hp, he⟩
  · exact absurd (hb.symm.trans hi) Bool.noConfusion
  · have ht : s.tmr ≠ 0 := ht
    have hcount : frameCyclesLeft (engineCycle s) = s.tmr - 1 + (49 - s.ph.val) * s.cfg.phaseCycles + 1 := by
      rw [engineCycle, he]
      exact if_pos hb
    rw [hcount, frameCyclesLeft_of_busy hb]
    omega
  · have ht : s.tmr = 0 := ht
    have hp : s.ph ≠ 49 := hp
    have hnext : 49 - s.ph.val = 49 - (s.ph + 1).val + 1 := by omega
    have hphase : frameCyclesLeft (engineCycle s) =
        s.cfg.phaseCycles - 1 + (49 - (s.ph + 1).val) * s.cfg.phaseCycles + 1 := by
      rw [engineCycle, he]
      exact if_pos hb
    rw [hphase, frameCyclesLeft_of_busy hb, ht, hnext, Nat.succ_mul]
    omega
  · have ht : s.tmr = 0 := ht
    have hp : s.ph = 49 := hp
    have hend : frameCyclesLeft (engineCycle s) = 0 := by
      rw [engineCycle, he]
      rfl
    rw [hend, frameCyclesLeft_of_busy hb, ht, hp]
    simp

/-- In flight, what a frame goes on with is what the engine and the chain make of it, whatever is granted (R177). -/
theorem step_frameView_engineCycle {s t : State} (hb : s.busy = true) (hr : s.now.rst = false)
    (hs : step s = .next t) : frameView t = frameView ((engineCycle s).sampleChain s.lines) :=
  (step_frameView hb hr hs).trans (congrArg (State.sampleChain · s.lines) (frameView_frameEngine s.nextCycle).symm)

theorem step_frameCyclesLeft {s t : State} (h : Legal s) (hb : s.busy = true) (hr : s.now.rst = false)
    (hs : step s = .next t) : frameCyclesLeft t + 1 = frameCyclesLeft s := by
  have hview := congrArg frameCyclesLeft (step_frameView_engineCycle hb hr hs)
  have hleft : frameCyclesLeft t = frameCyclesLeft (engineCycle s) := hview
  rw [hleft, frameCyclesLeft_engineCycle h hb]

/-! ### From the grant to the end -/

/-- `u` is in the frame that the TICK granted in `s` starts, `left` cycles before its end. -/
structure InFrameOf (s u : State) (left : Nat) : Prop where
  legal : Legal u
  busy : u.busy = true
  cyclesLeft : frameCyclesLeft u = left
  sw : u.sw = s.snapshot
  idx : u.idx = s.idx
  ndig : u.ndig = s.ndig
  cfg : u.cfg = s.cfg

/-- The cycle of the grant starts the frame (R144, R171). -/
theorem step_tick_inFrameOf {s t : State} (h : Legal s) (hg : grantedInstr s = some .tick) (hn : s.ndig ≠ 0)
    (hs : step s = .next t) : InFrameOf s t (49 * s.cfg.phaseCycles + 1) := by
  have hstart : effect .tick s.nextCycle = s.nextCycle.startFrame s.snapshot := if_neg hn
  have ht := Host.Outcome.next.inj (hs.symm.trans (step_tick hg))
  rw [hstart] at ht
  have hl := step_legal h hs
  subst ht
  exact ⟨hl, rfl, by simp [frameCyclesLeft], rfl, rfl, rfl, rfl⟩

/-- A cycle before the last stays in the frame. -/
theorem InFrameOf.step {s u v : State} {left : Nat} (h : InFrameOf s u (left + 1)) (hleft : 0 < left)
    (hr : u.now.rst = false) (hv : step u = .next v) : InFrameOf s v left := by
  have hcycles := h.cyclesLeft
  have hmore : ¬ (u.busy = true ∧ u.tmr = 0 ∧ u.ph = 49) := by
    rintro ⟨hb, ht, hp⟩
    rw [frameCyclesLeft_of_busy hb, ht, hp] at hcycles
    simp at hcycles
    omega
  have hdown := step_frameCyclesLeft h.legal h.busy hr hv
  have hfield {α : Type} (f : State → α) :
      f (frameView v) = f (frameView ((engineCycle u).sampleChain u.lines)) :=
    congrArg f (step_frameView_engineCycle h.busy hr hv)
  obtain ⟨hcfg, -, hndig, -, -, -, -, -, hsw, -⟩ := engineCycle_keeps u
  obtain ⟨hidx, -⟩ := engineCycle_idx_busy hmore
  exact {
    legal := step_legal h.legal hv
    busy := busy_iff_frameCyclesLeft_pos.2 (by omega)
    cyclesLeft := by omega
    sw := (hfield State.sw).trans (hsw.trans h.sw)
    idx := (hfield State.idx).trans (hidx.trans h.idx)
    ndig := (hfield State.ndig).trans (hndig.trans h.ndig)
    cfg := (hfield State.cfg).trans (hcfg.trans h.cfg) }

/-- R144: the frame is in flight from the cycle after the grant through the next 49·P + 1. -/
theorem runCycles_inFrameOf {s : State} (h : Legal s) (hg : grantedInstr s = some .tick) (hn : s.ndig ≠ 0)
    (hno : NoReset s (49 * s.cfg.phaseCycles + 2)) {m : Nat} (hm : m ≤ 49 * s.cfg.phaseCycles) :
    ∃ u, runCycles (m + 1) s = .next u ∧ InFrameOf s u (49 * s.cfg.phaseCycles + 1 - m) := by
  induction m with
  | zero =>
    obtain ⟨t, ht⟩ := step_total s
    exact ⟨t, runCycles_succ ht 0, step_tick_inFrameOf h hg hn ht⟩
  | succ m ih =>
    obtain ⟨u, hu, hframe⟩ := ih (by omega)
    obtain ⟨v, hv⟩ := step_total u
    have hr : u.now.rst = false := runCycles_now hu ▸ hno (m + 1) (by omega)
    have hleft : 49 * s.cfg.phaseCycles + 1 - m = 49 * s.cfg.phaseCycles + 1 - (m + 1) + 1 := by omega
    rw [hleft] at hframe
    exact ⟨v, runCycles_append hu hv, hframe.step (by omega) hr hv⟩

/-- The last cycle of the frame: event 49 is due at its start, and no reset comes in it. -/
theorem runCycles_lastCycle {s : State} (h : Legal s) (hg : grantedInstr s = some .tick) (hn : s.ndig ≠ 0)
    (hno : NoReset s (49 * s.cfg.phaseCycles + 2)) :
    ∃ u, runCycles (49 * s.cfg.phaseCycles + 1) s = .next u ∧ InFrameOf s u 1 ∧ u.now.rst = false ∧ u.tmr = 0 ∧
      u.ph = 49 := by
  obtain ⟨u, hu, hframe⟩ := runCycles_inFrameOf h hg hn hno le_rfl
  rw [Nat.add_sub_cancel_left] at hframe
  have hr : u.now.rst = false := runCycles_now hu ▸ hno _ (by omega)
  exact ⟨u, hu, hframe, hr, event_due_of_cyclesLeft hframe.legal hframe.busy (by simp [hframe.cyclesLeft])⟩

/-- Event 49 completes the frame and advances IDX (R143, R174). -/
theorem step_completes {s t : State} (hb : s.busy = true) (ht : s.tmr = 0) (hp : s.ph = 49) (hr : s.now.rst = false)
    (hs : step s = .next t) : t.busy = false ∧ t.idx = nextIndex s.idx s.ndig := by
  have hengine : engineCycle s = (performEvent s.nextCycle).completeFrame.setTurn (turnAfter s) := by
    simp [engineCycle, frameEngine, hb, ht, hp]
  have hview := step_frameView_engineCycle hb hr hs
  rw [hengine] at hview
  exact ⟨congrArg State.busy hview, congrArg State.idx hview⟩

/-- Settles O36: the cycles left, one fewer each cycle, say which event is due. -/
theorem frameTiming : Obligations.FrameTiming := by
  intro s h hg hn hno
  refine ⟨fun k => ?event, fun m h1 hm => ?inFlight, ?complete⟩
  case event =>
    have hsplit : k.val * s.cfg.phaseCycles + (49 - k.val) * s.cfg.phaseCycles = 49 * s.cfg.phaseCycles := by
      rw [← Nat.add_mul]
      congr 1
      omega
    obtain ⟨u, hu, hframe⟩ := runCycles_inFrameOf h hg hn hno (m := k.val * s.cfg.phaseCycles) (by omega)
    have hleft : frameCyclesLeft u = (49 - k.val) * u.cfg.phaseCycles + 1 := by
      rw [hframe.cyclesLeft, hframe.cfg]
      omega
    obtain ⟨ht, hp⟩ := event_due_of_cyclesLeft hframe.legal hframe.busy hleft
    exact ⟨u, Nat.add_comm _ 1 ▸ hu, hframe.busy, ht, hp, hframe.sw⟩
  case inFlight =>
    obtain ⟨m, rfl⟩ := Nat.exists_eq_add_of_le' h1
    obtain ⟨u, hu, hframe⟩ := runCycles_inFrameOf h hg hn hno (m := m) (by omega)
    refine ⟨u, hu, hframe.busy, fun htick => ?_⟩
    have hwaits := executed_waits_of_busy hframe.busy
    rw [executedInstr_eq_of_granted htick] at hwaits
    exact absurd hwaits (by decide)
  case complete =>
    obtain ⟨u, hu, hframe, hr, ht, hp⟩ := runCycles_lastCycle h hg hn hno
    obtain ⟨v, hv⟩ := step_total u
    obtain ⟨hidle, hidx⟩ := step_completes hframe.busy ht hp hr hv
    refine ⟨v, runCycles_append hu hv, hidle, ?_⟩
    rw [hidx, hframe.idx, hframe.ndig, nextIndex_val _ _ hn h.count]

/-! ### The chain at the end -/

/-- At event 49 the stages hold the whole frame and stay, and the latched outputs hold it, latched one event before or
just then (R151, R152). -/
theorem step_chain_complete {s t : State} (h : Sound s) (hb : s.busy = true) (ht : s.tmr = 0) (hp : s.ph = 49)
    (hr : s.now.rst = false) (hs : step s = .next t) : t.chain.sr = s.sw ∧ t.chain.qf ++ t.chain.qn = s.sw := by
  have hk : s.ph.val = 49 := congrArg Fin.val hp
  have hsr : s.chain.sr = s.sw := h.chain.sr_eq hb (by omega)
  have hstb : s.lines.stb = true := (h.lines.stb hb).trans (by simp [hk])
  have hlines : t.lines = ⟨s.lines.data, s.lines.clk, false⟩ := by
    rw [step_lines_event hr hs hb ht, lineEvent_stb_low hk]
    rfl
  rw [step_chain hr hs, hlines]
  refine ⟨(Chain.sample_not_shifted (crosses_self _ _)).trans hsr, ?_⟩
  cases hedge : s.cfg.latchEdge with
  | rising =>
    obtain ⟨hqn, hqf⟩ := Chain.sample_not_latched (cfg := s.cfg) (c := s.chain) (l := s.lines)
      (l' := ⟨s.lines.data, s.lines.clk, false⟩) (by simp [hedge, hstb, crosses])
    rw [hqn, hqf]
    exact h.chain.latched hb hedge hk
  | falling => exact (Chain.sample_latched_append (by simp [hedge, hstb, crosses])).trans hsr

theorem append_inj_of_bytes {a a' b b' : Byte} (h : a ++ b = a' ++ b') : a = a' ∧ b = b' := by
  have hhigh := congrArg (BitVec.extractLsb' 8 8) h
  have hlow := congrArg (BitVec.extractLsb' 0 8) h
  rw [BitVec.extractLsb'_append_eq_left, BitVec.extractLsb'_append_eq_left] at hhigh
  rw [BitVec.extractLsb'_append_eq_right, BitVec.extractLsb'_append_eq_right] at hlow
  exact ⟨hhigh, hlow⟩

/-- Settles O37: the run keeps the state sound up to the last cycle, which leaves the snapshot in the chain. -/
theorem frameReachesTheChain : Obligations.FrameReachesTheChain := by
  intro s h hg hn hno
  obtain ⟨u, hu, hframe, hr, ht, hp⟩ := runCycles_lastCycle h.legal hg hn hno
  obtain ⟨v, hv⟩ := step_total u
  have hsound : Sound u := runCycles_keeps step_sound h hu
  obtain ⟨hsr, hq⟩ := step_chain_complete hsound hframe.busy ht hp hr hv
  rw [hframe.sw] at hsr hq
  obtain ⟨hqf, hqn⟩ := append_inj_of_bytes hq
  exact ⟨v, runCycles_append hu hv, hsr, hqf, hqn⟩

end Sys2Proof.Machine
end

section
/-! PROOFS. The display (R153): what a chain that holds a frame's two bytes shows. -/

namespace Sys2Proof.Machine

/-- A chain with the select byte of a valid position enables that position alone. -/
theorem Chain.enabled_eq {c : Chain} {p : Fin 8} (h : SelectsOnly c.qn p) (q : Fin 8) : c.enabled q = decide (q = p) := by
  rw [Chain.enabled, h q]
  simp

/-- A wire bit at the level that the polarity lights is CANON's bit, whichever the polarity (R104, R106). -/
theorem segWire_lights (c : Config) (code : Byte) (dp pol : Bool) (k : Fin 8) :
    ((segWire c code dp pol).getLsbD k.val != pol) = (canon c code dp).getLsbD k.val := by
  cases pol with
  | false => simp
  | true => simp

/-- Settles O38: one position is enabled, and its segments are the bits of CANON. -/
theorem displayShowsTheGlyph : Obligations.DisplayShowsTheGlyph := by
  intro c ch code dp pol p n hc _ hp hqf hqn q seg
  have hen : ch.enabled q = decide (q = p) := Chain.enabled_eq (hqn ▸ selRom_selectsOnly hp) q
  rw [Chain.lit, hen, hqf, segWire_lights, canon_getLsbD hc]
  by_cases hseg : seg = .DP
  · simp [hseg, point_notMem_glyphOf hc]
  · simp [hseg]

end Sys2Proof.Machine
end

section
/-! PROOFS. TICK (R171, R173): the snapshot it loads, byte by byte, and the granted TICK of an unconfigured DDC. -/

namespace Sys2Proof.Machine

theorem effect_tick_configured {s : State} (hn : s.ndig ≠ 0) : effect .tick s = s.startFrame s.snapshot := if_neg hn

theorem effect_tick_unconfigured {s : State} (hn : s.ndig = 0) : effect .tick s = s := if_pos hn

/-- The snapshot's high byte is the segment wire byte of position IDX (R171). -/
theorem snapshot_segments (s : State) :
    s.snapshot.extractLsb' 8 8 = segWire s.cfg s.buf[s.idx.val] (s.dpm.getLsbD s.idx.val) s.pol :=
  BitVec.extractLsb'_append_eq_left

/-- The snapshot's low byte is the select byte of position IDX (R171). -/
theorem snapshot_select (s : State) : s.snapshot.extractLsb' 0 8 = selRom (BitVec.ofNat 8 s.idx.val) s.ndig :=
  BitVec.extractLsb'_append_eq_right

/-- Settles O18: a configured TICK starts a frame with the snapshot, whose two bytes are those of IDX. -/
theorem tickStartsFrame : Obligations.TickStartsFrame := by
  refine ⟨fun w hw => (Decodes.tick hw).decode_eq, fun s h hn => ⟨s.startFrame s.snapshot, ?_, ?_⟩⟩
  · rw [exec_eq, effect_tick_configured hn]
  · exact ⟨snapshot_segments s, snapshot_select s, snapshot_selectsOnly (h.index hn), rfl⟩

/-- Settles O19: the TICK has no effect, so its cycle moves the turn and the inputs only. -/
theorem tickUnconfiguredDoesNothing : Obligations.TickUnconfiguredDoesNothing := by
  refine ⟨fun s hn => ?_, fun s hn hg => ?_⟩
  · rw [exec_eq, effect_tick_unconfigured hn]
  · have hnext : s.nextCycle.ndig = 0 := hn
    rw [step_tick hg, effect_tick_unconfigured hnext]
    rfl

end Sys2Proof.Machine
end

section
/-! PROOFS. The frame engine in flight (R143, R174): one equation a branch, and what a cycle in flight takes from it,
whatever command runs beside it. -/

namespace Sys2Proof.Machine

theorem engineCycle_countDown {s : State} (hb : s.busy = true) (ht : s.tmr ≠ 0) :
    engineCycle s = s.nextCycle.countDown.setTurn (turnAfter s) := by
  simp [engineCycle, frameEngine, hb, ht]

theorem engineCycle_nextPhase {s : State} (hb : s.busy = true) (ht : s.tmr = 0) (hp : s.ph ≠ 49) :
    engineCycle s = (performEvent s.nextCycle).nextPhase.setTurn (turnAfter s) := by
  simp [engineCycle, frameEngine, hb, ht, hp]

theorem engineCycle_completeFrame {s : State} (hb : s.busy = true) (ht : s.tmr = 0) (hp : s.ph = 49) :
    engineCycle s = (performEvent s.nextCycle).completeFrame.setTurn (turnAfter s) := by
  simp [engineCycle, frameEngine, hb, ht, hp]

/-- After a cycle in flight BUSY, PH, TMR and IDX are what the engine left, and NDIG is unchanged (R177). -/
theorem step_inFlight {s t : State} (hb : s.busy = true) (hr : s.now.rst = false) (hs : step s = .next t) :
    t.busy = (engineCycle s).busy ∧ t.ph = (engineCycle s).ph ∧ t.tmr = (engineCycle s).tmr ∧
    t.idx = (engineCycle s).idx ∧ t.ndig = s.ndig := by
  obtain ⟨-, -, hndig, -⟩ := engineCycle_keeps s
  have hfield {α : Type} (f : State → α) : f (frameView t) = f (frameView ((engineCycle s).sampleChain s.lines)) :=
    congrArg f (step_frameView_engineCycle hb hr hs)
  exact ⟨hfield State.busy, hfield State.ph, hfield State.tmr, hfield State.idx, (hfield State.ndig).trans hndig⟩

/-- Settles O33, a clause a branch of the engine; NDIG is at least 1 because a frame is in flight. -/
theorem frameEngineAdvances : Obligations.FrameEngineAdvances := by
  intro s t h hr hb hs
  have hn : s.ndig ≠ 0 := h.inFlight hb
  obtain ⟨hbusy, hph, htmr, hidx, hndig⟩ := step_inFlight hb hr hs
  rw [hbusy, hph, htmr, hidx]
  refine ⟨fun ht => ?counting, fun ht hp => ?event, fun ht hp => ?completion, hndig, BitVec.toNat_pos_of_ne_zero hn⟩
  case counting =>
    rw [engineCycle_countDown hb ht]
    exact ⟨hb, rfl, rfl, rfl⟩
  case event =>
    have hnext : (s.ph + 1).val = s.ph.val + 1 := by omega
    rw [engineCycle_nextPhase hb ht (by omega)]
    exact ⟨hb, hnext, rfl, rfl⟩
  case completion =>
    have hstb : t.lines.stb = false := by
      rw [step_lines_event hr hs hb ht, lineEvent_stb_low hp]
      rfl
    rw [engineCycle_completeFrame hb ht (Fin.ext hp)]
    exact ⟨rfl, rfl, rfl, hstb, nextIndex_val _ _ hn h.count⟩

end Sys2Proof.Machine
end

section
/-! PROOFS. The visiting order (R174, R175): what one cycle without reset or INIT makes of IDX and of the frame in
flight, summed over a run. -/

namespace Sys2Proof.Machine

theorem completesFrame_iff {s : State} : completesFrame s = true ↔ s.busy = true ∧ s.tmr = 0 ∧ s.ph = 49 := by
  simp [completesFrame, and_assoc]

/-- R171: a TICK is granted only with no frame in flight. -/
theorem not_busy_of_granted_tick {s : State} (h : grantedInstr s = some .tick) : s.busy = false :=
  not_busy_of_executed_waits (by rw [executedInstr_eq_of_granted h]; rfl)

/-- But for INIT, no command writes NDIG or IDX (R24, R27): NDIG stays, and IDX is the engine's. -/
theorem step_ndig_idx {s t : State} (hr : s.now.rst = false) (hi : ¬ InitGranted s) (hs : step s = .next t) :
    t.ndig = s.ndig ∧ t.idx = (engineCycle s).idx := by
  obtain ⟨-, -, hkeep, -⟩ := engineCycle_keeps s
  obtain ⟨-, hndig, hidx⟩ := (effect_writes (executedInstr s) (engineCycle s)).config
    fun polb cnt he => hi (initGranted_of_executed ⟨polb, cnt, he⟩)
  rw [step_next hr hs]
  exact ⟨hndig.trans hkeep, hidx⟩

/-- A cycle moves IDX by the frames it completes, modulo NDIG (R174). -/
theorem step_idx {s t : State} (h : Legal s) (hn : s.ndig ≠ 0) (hr : s.now.rst = false) (hi : ¬ InitGranted s)
    (hs : step s = .next t) : t.idx.val = (s.idx.val + if completesFrame s then 1 else 0) % s.ndig.toNat := by
  obtain ⟨-, hidx⟩ := step_ndig_idx hr hi hs
  by_cases hc : completesFrame s = true
  · obtain ⟨hb, ht, hp⟩ := completesFrame_iff.1 hc
    rw [if_pos hc, hidx, engineCycle_completeFrame hb ht hp]
    exact nextIndex_val _ _ hn h.count
  · obtain ⟨hkeep, -⟩ := engineCycle_idx_busy (mt completesFrame_iff.2 hc)
    rw [if_neg hc, hidx, hkeep, Nat.add_zero, Nat.mod_eq_of_lt (h.index hn)]

/-- Frames in flight are conserved: those at the start of a cycle and those its TICK starts are those it completes and
those at its end. -/
theorem step_frames_balance {s t : State} (h : Legal s) (hn : s.ndig ≠ 0) (hr : s.now.rst = false)
    (hs : step s = .next t) :
    s.busy.toNat + (if grantedInstr s = some .tick then 1 else 0) =
      (if completesFrame s then 1 else 0) + t.busy.toNat := by
  by_cases hg : grantedInstr s = some .tick
  · have hidle := not_busy_of_granted_tick hg
    have hstarted := (step_tick_inFrameOf h hg hn hs).busy
    simp [hg, hidle, hstarted, completesFrame]
  · by_cases hc : completesFrame s = true
    · obtain ⟨hb, ht, hp⟩ := completesFrame_iff.1 hc
      obtain ⟨hended, -⟩ := step_completes hb ht hp hr hs
      simp [hg, hc, hb, hended]
    · obtain ⟨-, hkeep⟩ := engineCycle_idx_busy (mt completesFrame_iff.2 hc)
      obtain ⟨-, hbusy, -⟩ := (effect_writes (executedInstr s) (engineCycle s)).engine
        fun he => hg (grantedInstr_eq_of_executed he nofun)
      have hsame : t.busy = s.busy := by
        rw [step_next hr hs]
        exact hbusy.trans hkeep
      simp [hg, hc, hsame]

/-- What a run of cycles without reset or INIT has made of the state it started from (R175). -/
structure Visited (s u : State) (ticks frames : Nat) : Prop where
  legal : Legal u
  ndig : u.ndig = s.ndig
  idx : u.idx.val = (s.idx.val + frames) % s.ndig.toNat
  balance : s.busy.toNat + ticks = frames + u.busy.toNat

theorem visited_start {s : State} (h : Legal s) (hn : s.ndig ≠ 0) : Visited s s 0 0 where
  legal := h
  ndig := rfl
  idx := (Nat.mod_eq_of_lt (h.index hn)).symm
  balance := Nat.add_comm _ _

/-- One more cycle adds its frames and its TICK. -/
theorem Visited.cycle {s u v : State} {ticks frames : Nat} (h : Visited s u ticks frames) (hn : s.ndig ≠ 0)
    (hr : u.now.rst = false) (hi : ¬ InitGranted u) (hv : step u = .next v) :
    Visited s v (ticks + if grantedInstr u = some .tick then 1 else 0)
      (frames + if completesFrame u then 1 else 0) := by
  have hnu : u.ndig ≠ 0 := h.ndig ▸ hn
  obtain ⟨hndig, -⟩ := step_ndig_idx hr hi hv
  have hbalance := h.balance
  have hstep := step_frames_balance h.legal hnu hr hv
  exact {
    legal := step_legal h.legal hv
    ndig := hndig.trans h.ndig
    idx := by rw [step_idx h.legal hnu hr hi hv, h.idx, h.ndig, Nat.mod_add_mod, Nat.add_assoc]
    balance := by omega }

theorem FrameRun.visited {ticks frames : Nat} {s u : State} (hrun : FrameRun ticks frames s u) (h : Legal s)
    (hn : s.ndig ≠ 0) : Visited s u ticks frames := by
  induction hrun with
  | start => exact visited_start h hn
  | cycle _ hr hi hv ih => exact (ih h hn).cycle hn hr hi hv

/-- Settles O42: the run has moved IDX by its completed frames, and the TICK granted then, with no frame in flight,
snapshots it. -/
theorem visitingOrder : Obligations.VisitingOrder := by
  intro s u ticks frames h hn hrun
  obtain ⟨hlegal, hndig, hidx, hbalance⟩ := hrun.visited h hn
  have hnu : u.ndig ≠ 0 := hndig ▸ hn
  refine ⟨hndig, hidx, fun hg => ⟨fun hidle => ?_, ?_⟩⟩
  · have hidle' := not_busy_of_granted_tick hg
    simpa [hidle, hidle', eq_comm] using hbalance
  · obtain ⟨v, hv⟩ := step_total u
    have hframe := step_tick_inFrameOf hlegal hg hnu hv
    refine ⟨v, hv, hframe.busy, ?_, ?_⟩
    · rw [hframe.sw, ← hidx, ← hndig]
      rfl
    · rw [hframe.sw]
      exact snapshot_selectsOnly (hlegal.index hnu)

end Sys2Proof.Machine
end

section
/-! PROOFS. The buffer commands (44_buffer_commands.md): which words are eligible when, and then each command's fields
and frame, read off its effect. -/

namespace Sys2Proof.Machine

/-! ### Eligibility (R190, R221) -/

theorem eligibleHost_iff {s : State} (hv : s.now.cmdValid = true) :
    eligibleHost s = true ↔ s.busy = false ∨ waits (decode s.now.cmd) = false := by
  simp [eligibleHost, hv, waitsForFrame_eq, or_comm]

/-- Of the commands other than TICK only INIT waits; a reserved opcode is neither of the two that do. -/
theorem waits_eq_false_iff {i : Instr} (hwf : i.wf = true) (hi : i ≠ .tick) :
    waits i = false ↔ ∀ polb cnt, i ≠ .init polb cnt := by
  cases i with
  | init polb cnt => exact ⟨nofun, fun h => absurd rfl (h polb cnt)⟩
  | tick => exact absurd rfl hi
  | reserved op =>
    have hop : ∀ op : Nibble, 8 ≤ op.toNat → waits (.reserved op) = false := by decide
    exact ⟨fun _ => nofun, fun _ => hop op (of_decide_eq_true hwf)⟩
  | _ => exact ⟨fun _ => nofun, fun _ => rfl⟩

theorem not_cmdReady_of_not_eligible {s : State} (h : eligibleHost s ≠ true) : (outputs s).cmdReady = false := by
  have hg : grant s ≠ some .host := fun hg => h (grant_host_inv hg).2
  simpa [outputs] using hg

/-! ### Every command but TICK -/

/-- Settles O22: the command writes nothing of the engine, and of these commands the arbiter holds INIT only. -/
theorem bufferCommandsLeaveTheEngineAlone : Obligations.BufferCommandsLeaveTheEngineAlone := by
  intro i s hi
  refine ⟨⟨effect i s, exec_eq i s, ?frame⟩, fun hv hd => ?eligible⟩
  case frame =>
    obtain ⟨hsw, hbusy, hph, htmr⟩ := (effect_writes i s).engine hi
    obtain ⟨hcfg, hlines, hchain, hrr, hinputs, -⟩ := effect_keeps i s
    exact ⟨hsw, hph, htmr, hbusy, hlines, hrr, hchain, hcfg, hinputs⟩
  case eligible =>
    have hwf : i.wf = true := hd ▸ decode_wf s.now.cmd
    rw [eligibleHost_iff hv, hd, waits_eq_false_iff hwf hi]

/-! ### NOP and RESERVED -/

/-- The bit test of R73's RESERVED row, on the opcode. -/
theorem reserved_fieldOp_of_and {w : CmdWord} (h : w &&& 0x8000 = 0x8000) : 8 ≤ (fieldOp w).toNat := by
  have hop : ∀ op : Nibble, op &&& 0x8 = 0x8 → 8 ≤ op.toNat := by decide
  exact hop _ ((fieldOp_and w 0x8000).symm.trans (congrArg fieldOp h))

theorem decode_of_reserved {w : CmdWord} (h : 8 ≤ (fieldOp w).toNat) : decode w = .reserved (fieldOp w) :=
  (Decodes.reserved h rfl).decode_eq

/-- Settles O11: both effects are the state itself, and neither command waits. -/
theorem nopAndReservedLeaveState : Obligations.NopAndReservedLeaveState := by
  have hnop : ∀ w : CmdWord, fieldOp w = 0 → decode w = .nop := fun w hw => (Decodes.nop hw).decode_eq
  refine ⟨exec_eq .nop, fun op => exec_eq (.reserved op), hnop,
    fun w hw => decode_of_reserved (reserved_fieldOp_of_and hw), fun w hw => ?_⟩
  have hd : effect (decode w) = id ∧ waits (decode w) = false := by
    rcases hw with h0 | h8
    · rw [hnop w h0]
      exact ⟨rfl, rfl⟩
    · have hwf : (Instr.reserved (fieldOp w)).wf = true := decide_eq_true h8
      rw [decode_of_reserved h8]
      exact ⟨rfl, (waits_eq_false_iff hwf nofun).2 nofun⟩
  obtain ⟨heffect, hwaits⟩ := hd
  refine ⟨fun s => by rw [exec_eq, heffect]; rfl, fun s hv hcmd => ?_⟩
  rw [eligibleHost_iff hv, hcmd]
  exact .inr hwaits

/-! ### INIT and CLEAR -/

/-- Every entry BLANK, in a legal configuration the code 16 (R25, R198). -/
theorem blankAll_getElem {s : State} (h : s.cfg.wf = true) (i : Fin 8) : s.blankAll.buf[i.val] = 16 := by
  rw [State.blankAll_buf, Vector.getElem_replicate, Config.wf_codeBlank h]

/-- CNT saturated at 8 (R72, R192). -/
theorem saturateCount_toNat_of_wf {c : Config} (h : c.wf = true) (cnt : Byte) :
    (saturateCount c cnt).toNat = min cnt.toNat 8 := by
  have hmax := Config.wf_maxDigits h
  rw [saturateCount_toNat (by omega), hmax]

/-- Settles O12: the fields INIT writes, one by one; and it waits, so it is eligible just with BUSY = 0. -/
theorem initConfigures : Obligations.InitConfigures := by
  refine ⟨fun w hw => (Decodes.init hw rfl rfl).decode_eq, fun s polb cnt h => ⟨?effect, fun hv hd => ?eligible⟩⟩
  case effect =>
    exact ⟨_, exec_eq _ s, rfl, saturateCount_toNat_of_wf h cnt,
      blankAll_getElem (s := s.configure polb (saturateCount s.cfg cnt)) h, rfl, rfl, rfl⟩
  case eligible =>
    have he : eligibleHost s = true ↔ s.busy = false := by
      rw [eligibleHost_iff hv, hd]
      exact or_iff_left nofun
    exact ⟨he, fun hb => not_cmdReady_of_not_eligible (by simp [he, hb])⟩

/-- Settles O15: CLEAR is the blanking alone. -/
theorem clearBlanksAll : Obligations.ClearBlanksAll :=
  ⟨fun _ hw => (Decodes.clear hw).decode_eq, fun s h => ⟨s.blankAll, exec_eq .clear s, blankAll_getElem h, rfl, rfl⟩⟩

/-! ### SET_DIGIT and SET_DP -/

theorem effect_setDigit_of_valid {s : State} {pos : Nibble} (val : Byte) (h : pos.toNat < s.ndig.toNat) :
    effect (.setDigit pos val) s = s.writeDigit pos val := by
  simp [effect, validPosition, h]

theorem effect_setDp_of_invalid {s : State} {pos : Nibble} (on : Bool) (h : s.ndig.toNat ≤ pos.toNat) :
    effect (.setDp pos on) s = s := by
  simp [effect, validPosition, h]

/-- Settles O13: the write of a valid position, or nothing; positions 8..15 are at or above a count of at most 8. -/
theorem setDigitWritesOneEntry : Obligations.SetDigitWritesOneEntry := by
  refine ⟨fun w hw => (Decodes.setDigit hw rfl rfl).decode_eq, fun s pos val => ⟨_, exec_eq _ s, ?_⟩⟩
  rcases Nat.lt_or_ge pos.toNat s.ndig.toNat with hpos | hpos
  · rw [effect_setDigit_of_valid val hpos]
    refine ⟨fun i => ?_, rfl, fun hn => by omega, fun hn hp => by omega⟩
    simp only [State.writeDigit_getElem, hpos, true_and]
  · rw [effect_setDigit_of_invalid val hpos]
    refine ⟨fun i => ?_, rfl, fun _ => rfl, fun _ _ => rfl⟩
    rw [if_neg fun h => Nat.not_lt.2 hpos h.1]

/-- Settles O14: the mask bit of a valid position, or nothing. -/
theorem setDpWritesOneBit : Obligations.SetDpWritesOneBit := by
  refine ⟨fun w hw => (Decodes.setDp hw rfl rfl).decode_eq, fun s pos on => ⟨_, exec_eq _ s, ?_⟩⟩
  rcases Nat.lt_or_ge pos.toNat s.ndig.toNat with hpos | hpos
  · rw [effect_setDp_of_valid on hpos]
    refine ⟨fun i => ?_, rfl, fun hn => by omega⟩
    simp only [State.writePoint_dpm, putBit_getLsbD _ _ _ _ i.isLt, hpos, true_and]
  · rw [effect_setDp_of_invalid on hpos]
    refine ⟨fun i => ?_, rfl, fun _ => rfl⟩
    rw [if_neg fun h => Nat.not_lt.2 hpos h.1]

/-! ### SET_BRIGHTNESS and LOCK -/

/-- PCT saturated at 100 (R72, R200). -/
theorem saturatePercent_toNat_of_wf {c : Config} (h : c.wf = true) (pct : Byte) :
    (saturatePercent c pct).toNat = min pct.toNat 100 := by
  have hmax := Config.wf_brightMax h
  rw [saturatePercent_toNat (by omega), hmax]

/-- No branch of the engine reads or writes BRIGHT (R200). -/
theorem frameEngine_setBright (s : State) (b : BitVec 7) : frameEngine (s.setBright b) = (frameEngine s).setBright b := by
  simp only [frameEngine, apply_ite (State.setBright · b)]
  rfl

/-- Settles O16: the saturated percentage is written, and neither the snapshot nor the engine reads it. -/
theorem setBrightnessSaturates : Obligations.SetBrightnessSaturates :=
  ⟨fun _ hw => (Decodes.setBrightness hw rfl).decode_eq, fun s b => ⟨rfl, frameEngine_setBright s b⟩,
    fun s pct h => ⟨_, exec_eq (.setBrightness pct) s, saturatePercent_toNat_of_wf h pct, rfl, rfl⟩⟩

theorem not_eligibleTick_of_lock {s : State} (h : s.lock = true) : eligibleTick s = false := by
  simp [eligibleTick, h]

/-- Settles O17: LOCK is the write of its field, which only the tick port's eligibility reads. -/
theorem lockWritesOnlyLock : Obligations.LockWritesOnlyLock :=
  ⟨fun _ hw => (Decodes.lock hw rfl).decode_eq, fun s l => exec_eq (.lock l) s, fun _ => not_eligibleTick_of_lock,
    fun _ _ => rfl⟩

end Sys2Proof.Machine
end

section
/-! PROOFS. The arbiter (45_arbiter_and_cycle.md R220-R223): the grant said once for both ports, by eligibility and the
turn; then the ready outputs and the round robin. -/

namespace Sys2Proof.Machine

/-! ### The grant -/

/-- The eligibility of a port's request: eH and eT of R221. -/
def eligible (s : State) : Port → Bool
  | .host => eligibleHost s
  | .tick => eligibleTick s

theorem contest_iff {s : State} (p : Port) :
    contest s = true ↔ eligible s p = true ∧ eligible s p.other = true := by
  cases p with
  | host => simp [contest, eligible, Port.other]
  | tick => simp [contest, eligible, Port.other, and_comm]

theorem Port.ne_other_iff {p q : Port} : q ≠ p.other ↔ q = p := by
  cases p <;> cases q <;> decide

/-- A contest goes to the port RR names (R223). -/
theorem grant_contest {s : State} (hr : s.now.rst = false) (hc : contest s = true) : grant s = some s.rr := by
  simp [grant, hr, hc]

/-- A port is granted just when it is eligible, outside a reset, and alone or named by RR (R222). -/
theorem grant_eq_some_iff {s : State} {p : Port} :
    grant s = some p ↔ s.now.rst = false ∧ eligible s p = true ∧ (eligible s p.other = true → s.rr = p) := by
  cases hr : s.now.rst with
  | true => simp [grant, hr]
  | false =>
    by_cases hc : contest s = true
    · obtain ⟨hp, hother⟩ := (contest_iff p).1 hc
      simp [grant_contest hr hc, hp, hother]
    · have hnot := mt (contest_iff p).2 hc
      cases p with
      | host => cases hH : eligibleHost s <;> cases hT : eligibleTick s <;> simp_all [grant, eligible, Port.other]
      | tick => cases hH : eligibleHost s <;> cases hT : eligibleTick s <;> simp_all [grant, eligible, Port.other]

/-- Outside a reset an eligible request is granted, or loses a contest. -/
theorem grant_or_lost {s : State} {p : Port} (hr : s.now.rst = false) (he : eligible s p = true) :
    grant s = some p ∨ (contest s = true ∧ s.rr = p.other) := by
  by_cases hturn : s.rr = p.other
  · by_cases hother : eligible s p.other = true
    · exact .inr ⟨(contest_iff p).2 ⟨he, hother⟩, hturn⟩
    · exact .inl (grant_eq_some_iff.2 ⟨hr, he, fun h => absurd h hother⟩)
  · exact .inl (grant_eq_some_iff.2 ⟨hr, he, fun _ => Port.ne_other_iff.1 hturn⟩)

theorem not_contest_of_grant_none {s : State} (hr : s.now.rst = false) (hg : grant s = none) : contest s = false := by
  by_contra hc
  simp [grant_contest hr (by simpa using hc)] at hg

/-! ### The ready outputs -/

theorem waits_eq_true_iff {i : Instr} (hwf : i.wf = true) :
    waits i = true ↔ i = .tick ∨ ∃ polb cnt, i = .init polb cnt := by
  by_cases hi : i = .tick
  · simp [hi, waits, Instr.opcode]
  · rw [← Bool.not_eq_false, waits_eq_false_iff hwf hi]
    simp only [hi, false_or, not_forall, not_not]

theorem eligibleHost_eq_true_iff {s : State} :
    eligibleHost s = true ↔ s.now.cmdValid = true ∧ (waitsForFrame s.now.cmd = true → s.busy = false) := by
  cases hw : waitsForFrame s.now.cmd <;> simp [eligibleHost, hw]

theorem eligibleTick_eq_true_iff {s : State} :
    eligibleTick s = true ↔ s.now.tickReq = true ∧ s.busy = false ∧ s.lock = false := by
  simp [eligibleTick, and_assoc]

/-- Settles O44: a ready output is the grant of its port, and the two grants exclude each other. -/
theorem grantFollowsEligibility : Obligations.GrantFollowsEligibility := by
  refine ⟨fun w => ?_, fun s => ?_⟩
  · rw [waitsForFrame_eq, waits_eq_true_iff (decode_wf w)]
  · have hcmd : (outputs s).cmdReady = true ↔ grant s = some .host := by simp [outputs]
    have htick : (outputs s).tickReady = true ↔ grant s = some .tick := by simp [outputs]
    intro eH eT
    have hH : eligible s .host = true ↔ eH := eligibleHost_eq_true_iff
    have hT : eligible s .tick = true ↔ eT := eligibleTick_eq_true_iff
    rw [hcmd, htick]
    refine ⟨?host, ?tick, fun ⟨hgh, hgt⟩ => nomatch hgh.symm.trans hgt⟩
    case host => rw [grant_eq_some_iff, Port.other, hH, hT]
    case tick => rw [grant_eq_some_iff, Port.other, hT, hH]

/-! ### The turn -/

theorem turnAfter_contest {s : State} (hc : contest s = true) : turnAfter s = s.rr.other := if_pos hc

theorem turnAfter_no_contest {s : State} (hc : contest s = false) : turnAfter s = s.rr := by
  simp [turnAfter, hc]

/-- Settles O45: a cycle's RR is `turnAfter`, and a reset's is the tick port. -/
theorem roundRobin : Obligations.RoundRobin := by
  intro s t hs
  refine ⟨fun hr hc => ⟨grant_contest hr hc, ?_⟩, fun hr hc => ?_, fun hr => ?_⟩
  · rw [step_rr hr hs, turnAfter_contest hc]
  · rw [step_rr hr hs, turnAfter_no_contest hc]
  · rcases step_cases hs with ⟨-, rfl⟩ | ⟨hf, -⟩
    · rw [resetCycle_eq]
      rfl
    · exact absurd (hr.symm.trans hf) Bool.noConfusion

end Sys2Proof.Machine
end

section
/-! PROOFS. The parts of a cycle do not meet (R224): the engine and a command beside it commute, a request without a
grant moves at most the turn, and a cycle is a line event and then a command (R225). -/

namespace Sys2Proof.Machine

/-! ### The engine and the commands -/

/-- A write that leaves the fields the engine branches on, and commutes with each of its three moves, commutes with the
engine (R143). -/
theorem frameEngine_comm {write : State → State} {s : State} (hbusy : (write s).busy = s.busy)
    (htmr : (write s).tmr = s.tmr) (hph : (write s).ph = s.ph) (hcount : (write s).countDown = write s.countDown)
    (hnext : (performEvent (write s)).nextPhase = write (performEvent s).nextPhase)
    (hcomplete : (performEvent (write s)).completeFrame = write (performEvent s).completeFrame) :
    frameEngine (write s) = write (frameEngine s) := by
  simp only [frameEngine, apply_ite write, hbusy, htmr, hph, hcount, hnext, hcomplete]

/-- The engine leaves NDIG, and with it the guard of a position, alone. -/
theorem frameEngine_guardedWrite {pos : Nibble} {write : State → State} {s : State}
    (h : frameEngine (write s) = write (frameEngine s)) :
    frameEngine (guardedWrite pos write s) = guardedWrite pos write (frameEngine s) := by
  have hvalid : validPosition (frameEngine s) pos = validPosition s pos := by
    simp [validPosition, frameEngine_keeps]
  rw [guardedWrite, guardedWrite, hvalid, ← h, apply_ite frameEngine]

/-- A command that does not wait for the frame is a write the engine commutes with (R224). -/
theorem frameEngine_effect {i : Instr} (htick : i ≠ .tick) (hinit : ∀ polb cnt, i ≠ .init polb cnt) (s : State) :
    frameEngine (effect i s) = effect i (frameEngine s) := by
  cases i with
  | init polb cnt => exact absurd rfl (hinit polb cnt)
  | tick => exact absurd rfl htick
  | setDigit pos val =>
    have hwrite : frameEngine (s.writeDigit pos val) = (frameEngine s).writeDigit pos val :=
      frameEngine_comm (write := (·.writeDigit pos val)) rfl rfl rfl rfl rfl rfl
    exact frameEngine_guardedWrite (write := (·.writeDigit pos val)) hwrite
  | setDp pos on =>
    have hwrite : frameEngine (s.writePoint pos on) = (frameEngine s).writePoint pos on :=
      frameEngine_comm (write := (·.writePoint pos on)) rfl rfl rfl rfl rfl rfl
    exact frameEngine_guardedWrite (write := (·.writePoint pos on)) hwrite
  | _ => exact frameEngine_comm rfl rfl rfl rfl rfl rfl

/-- Settles O51: the state the command leaves is its effect, which commutes with the engine. -/
theorem engineAndCommandCommute : Obligations.EngineAndCommandCommute := by
  intro i s t htick hinit ht
  rw [exec_inv ht, exec_eq, frameEngine_effect htick hinit]

/-! ### Requests without a grant -/

/-- No command reads or writes RR. -/
theorem effect_setTurn (i : Instr) (s : State) (p : Port) : (effect i s).setTurn p = effect i (s.setTurn p) := by
  cases i with
  | setDigit pos val => exact apply_ite (State.setTurn · p) _ _ _
  | setDp pos on => exact apply_ite (State.setTurn · p) _ _ _
  | tick => exact (effect_tick_setTurn s p).symm
  | _ => rfl

/-- The state of a cycle with another input sample, those of the later cycles kept. -/
def State.withSample (s : State) (x : Inputs) : State := { s with inputs := x :: s.inputs.tail }

/-- But for the turn, the step depends on the sample through the executed command only. -/
theorem step_withSample {s : State} {x : Inputs} (hr : s.now.rst = false) (hx : x.rst = false)
    (hi : executedInstr (s.withSample x) = executedInstr s) :
    ∃ u : State, step s = .next (u.setTurn (turnAfter s)) ∧
      step (s.withSample x) = .next (u.setTurn (turnAfter (s.withSample x))) := by
  refine ⟨(effect (executedInstr s) (frameEngine s.nextCycle)).sampleChain s.lines, ?_, ?_⟩
  · rw [step_eq hr, engineCycle, ← effect_setTurn]
    rfl
  · rw [step_eq (s := s.withSample x) hx, hi, engineCycle, ← effect_setTurn]
    rfl

/-- Two cycles that run one command under two samples differ in the turn only. -/
theorem eq_but_turn_of_withSample {s t t' : State} {x : Inputs} (hr : s.now.rst = false) (hx : x.rst = false)
    (hi : executedInstr (s.withSample x) = executedInstr s) (hs : step s = .next t)
    (hs' : step (s.withSample x) = .next t') : t = { t' with rr := t.rr } := by
  obtain ⟨u, hu, hu'⟩ := step_withSample hr hx hi
  obtain rfl := Host.Outcome.next.inj (hs.symm.trans hu)
  obtain rfl := Host.Outcome.next.inj (hs'.symm.trans hu')
  rfl

theorem executedInstr_of_not_granted {s : State} (hg : grant s = none) : executedInstr s = .nop := by
  simp [executedInstr, grantedInstr, hg]

theorem executedInstr_of_grant {s : State} {p : Port} (hg : grant s = some p) :
    executedInstr s = decode (grantedWord s p) :=
  executedInstr_eq_of_granted (by simp [grantedInstr, hg])

/-- Settles O48: the sample without the request runs the same command, and without a grant RR stays as well. -/
theorem ungrantedRequestsHaveNoEffect : Obligations.UngrantedRequestsHaveNoEffect := by
  refine ⟨fun s hr hg => ?none, fun s t t' hg hs hs' => ?tick, fun s t t' hg hs hs' => ?host⟩
  case none =>
    have hidle : grant (s.withSample {}) = none := rfl
    have hi : executedInstr (s.withSample {}) = executedInstr s := by
      rw [executedInstr_of_not_granted hg, executedInstr_of_not_granted hidle]
    obtain ⟨u, hu, hu'⟩ := step_withSample hr rfl hi
    have hturn := turnAfter_no_contest (not_contest_of_grant_none hr hg)
    have hturn' := turnAfter_no_contest (not_contest_of_grant_none rfl hidle)
    rw [hu, hturn]
    exact (hu'.trans (by rw [hturn']; rfl)).symm
  case tick =>
    obtain ⟨hr, he, -⟩ := grant_eq_some_iff.1 hg
    have hg' : grant (s.withSample { s.now with cmdValid := false }) = some .tick :=
      grant_eq_some_iff.2 ⟨hr, he, nofun⟩
    have hi := (executedInstr_of_grant hg').trans (executedInstr_of_grant hg).symm
    exact eq_but_turn_of_withSample hr (x := { s.now with cmdValid := false }) hr hi hs hs'
  case host =>
    obtain ⟨hr, he, -⟩ := grant_eq_some_iff.1 hg
    have hg' : grant (s.withSample { s.now with tickReq := false }) = some .host :=
      grant_eq_some_iff.2 ⟨hr, he, nofun⟩
    have hi := (executedInstr_of_grant hg').trans (executedInstr_of_grant hg).symm
    exact eq_but_turn_of_withSample hr (x := { s.now with tickReq := false }) hr hi hs hs'

/-! ### The transaction view -/

theorem eventStep_last {s : State} (hp : s.ph = 49) :
    eventStep s = (performEvent s).completeFrame.sampleChain s.lines := by
  rw [eventStep, if_pos hp]

theorem eventStep_before_last {s : State} (hp : s.ph ≠ 49) :
    eventStep s = State.sampleChain { performEvent s with ph := s.ph + 1 } s.lines := by
  rw [eventStep, if_neg hp]

/-- The line event of a cycle in the view of R225, when one is due. -/
def lineTransaction (s : State) : State :=
  if s.busy = true ∧ s.tmr = 0 then eventStep (untimed s) else untimed s

theorem lineTransaction_due {s : State} (hb : s.busy = true) (ht : s.tmr = 0) :
    lineTransaction s = eventStep (untimed s) := if_pos ⟨hb, ht⟩

theorem lineTransaction_quiet {s : State} (h : ¬ (s.busy = true ∧ s.tmr = 0)) : lineTransaction s = untimed s :=
  if_neg h

/-- The engine and the chain make the line event of the cycle, or change only what R225's view drops. -/
theorem untimed_engineCycle (s : State) : untimed ((engineCycle s).sampleChain s.lines) = lineTransaction s := by
  by_cases hdue : s.busy = true ∧ s.tmr = 0
  · obtain ⟨hb, ht⟩ := hdue
    rw [lineTransaction_due hb ht]
    by_cases hp : s.ph = 49
    · rw [engineCycle_completeFrame hb ht hp, eventStep_last (s := untimed s) hp]
      rfl
    · rw [engineCycle_nextPhase hb ht hp, eventStep_before_last (s := untimed s) hp]
      rfl
  · rw [lineTransaction_quiet hdue, sampleChain_of_lines_eq (engineCycle_lines hdue)]
    cases hb : s.busy with
    | false =>
      rw [engineCycle_idle hb]
      rfl
    | true =>
      rw [engineCycle_countDown hb fun ht => hdue ⟨hb, ht⟩]
      rfl

/-- No command reads what R225's view drops, and only TICK writes any of it: TMR, to 0. -/
theorem untimed_effect (i : Instr) (s : State) : untimed (effect i s) = effect i (untimed s) := by
  cases i with
  | setDigit pos val => exact apply_ite untimed _ _ _
  | setDp pos on => exact apply_ite untimed _ _ _
  | tick => exact apply_ite untimed _ _ _
  | _ => rfl

/-- A cycle in R225's view: the line event that is due, then the executed command. -/
theorem untimed_step {s t : State} (hr : s.now.rst = false) (hs : step s = .next t) :
    untimed t = effect (executedInstr s) (lineTransaction s) := by
  rw [step_next hr hs, effect_sampleChain, untimed_effect, untimed_engineCycle]

/-- Settles O52: the intermediate state is the line event's, and the command is the executed one. -/
theorem cyclesRefineTransactions : Obligations.CyclesRefineTransactions := by
  intro s t hr hs
  have ht := untimed_step hr hs
  refine ⟨lineTransaction s, fun ⟨hb, htmr⟩ => ?event, lineTransaction_quiet, fun hg => ?none, fun p hg => ?command⟩
  case event =>
    have hm := lineTransaction_due hb htmr
    exact ⟨hm, hm ▸ .event hb⟩
  case none => rw [ht, executedInstr_of_not_granted hg, effect]
  case command =>
    have hexec : exec (decode (grantedWord s p)) (lineTransaction s) = .next (untimed t) := by
      rw [ht, executedInstr_of_grant hg, exec_eq]
    have hwait (hw : waitsForFrame (grantedWord s p) = true) : lineTransaction s = untimed s ∧ s.busy = false := by
      have hb : s.busy = false := not_busy_of_executed_waits (by rwa [executedInstr_of_grant hg, ← waitsForFrame_eq])
      exact ⟨lineTransaction_quiet (by simp [hb]), hb⟩
    refine ⟨hexec, .command _ (fun hw => ?_) hexec, hwait⟩
    obtain ⟨hm, hb⟩ := hwait hw
    rw [hm]
    exact hb

end Sys2Proof.Machine
end

section
/-! PROOFS. Progress (R226): RR stays from one contest to the next, and a held request waits for at most the frame in
flight, one lost contest, and the winner's frame. -/

namespace Sys2Proof.Machine

/-! ### The next contest -/

/-- RR stays over cycles without a contest (R223). -/
theorem runCycles_rr {n : Nat} {s u : State}
    (hquiet : ∀ k v, k < n → runCycles k s = .next v → v.now.rst = false ∧ contest v = false)
    (hu : runCycles n s = .next u) : u.rr = s.rr := by
  induction n generalizing s with
  | zero => rw [Host.Outcome.next.inj hu]
  | succ n ih =>
    obtain ⟨hr, hc⟩ := hquiet 0 s n.succ_pos rfl
    have hs := step_eq hr
    rw [runCycles_succ hs] at hu
    have hrest := ih (fun k v hk hv => hquiet (k + 1) v (Nat.succ_lt_succ hk) ((runCycles_succ hs k).trans hv)) hu
    rw [hrest, step_rr hr hs, turnAfter_no_contest hc]

/-- Settles O53: the first contest gives the turn to its loser, who keeps it until the next. -/
theorem loserWinsTheNextContest : Obligations.LoserWinsTheNextContest := by
  intro n s u hno hc hbetween hu hcu
  have hrun {k : Nat} {v : State} (hk : k < n + 2) (hv : runCycles k s = .next v) : v.now.rst = false :=
    runCycles_now hv ▸ hno k hk
  have hr : s.now.rst = false := hrun (k := 0) (by omega) rfl
  have hs := step_eq hr
  have hturn := step_rr hr hs
  have hru := hrun (by omega) hu
  rw [runCycles_succ hs] at hu
  have hkept := runCycles_rr (fun k v hk hv =>
    have hv' := (runCycles_succ hs k).trans hv
    ⟨hrun (by omega) hv', hbetween (k + 1) v k.succ_pos (by omega) hv'⟩) hu
  refine ⟨?_, grant_contest hr hc⟩
  rw [grant_contest hru hcu, hkept, hturn, turnAfter_contest hc]

/-! ### Waiting for a frame -/

theorem step_cfg {s t : State} (hs : step s = .next t) : t.cfg = s.cfg := by
  rcases step_cases hs with ⟨-, rfl⟩ | ⟨-, rfl⟩
  · rw [resetCycle_eq]
    rfl
  · simp

/-- No frame lasts longer than the one just started (R144). -/
theorem frameCyclesLeft_le {s : State} (h : Legal s) : frameCyclesLeft s ≤ 49 * s.cfg.phaseCycles + 1 := by
  cases hb : s.busy with
  | false => simp [frameCyclesLeft, hb]
  | true =>
    rw [frameCyclesLeft_of_busy hb]
    by_cases hp : s.ph = 0
    · simp [hp, h.firstEvent hp]
    · have hev : 49 - s.ph.val ≤ 48 := by omega
      have hmul := Nat.mul_le_mul_right s.cfg.phaseCycles hev
      have htmr := h.timer
      omega

/-- While a frame is in flight the tick port is not eligible, so there is no contest. -/
theorem not_contest_of_busy {s : State} (hb : s.busy = true) : contest s = false := by
  simp [contest, eligibleTick, hb]

/-- The run goes on from `u` to the end of the frame in flight, and RR stays, since no contest is met (R144, R223). -/
theorem exists_idle {s u : State} {k : Nat} (h : Legal u) (hu : runCycles k s = .next u)
    (hno : NoReset s (k + frameCyclesLeft u)) :
    ∃ v, runCycles (k + frameCyclesLeft u) s = .next v ∧ v.busy = false ∧ Legal v ∧ v.rr = u.rr ∧ v.cfg = u.cfg := by
  induction hleft : frameCyclesLeft u generalizing u k with
  | zero =>
    have hb : u.busy = false := Bool.eq_false_iff.2 fun hb => absurd (busy_iff_frameCyclesLeft_pos.1 hb) (by omega)
    exact ⟨u, hu, hb, h, rfl, rfl⟩
  | succ left ih =>
    have hb : u.busy = true := busy_iff_frameCyclesLeft_pos.2 (by omega)
    have hr : u.now.rst = false := runCycles_now hu ▸ hno k (by omega)
    obtain ⟨v, hv⟩ := step_total u
    have hdown := step_frameCyclesLeft h hb hr hv
    have hsum : k + 1 + left = k + (left + 1) := by omega
    have hleft' : frameCyclesLeft v = left := by omega
    obtain ⟨w, hw, hidle, hlegal, hturn, hcfg⟩ := ih (step_legal h hv) (runCycles_append hu hv)
      (by rwa [hleft', hsum, ← hleft]) hleft'
    refine ⟨w, hsum ▸ hw, hidle, hlegal, ?_, hcfg.trans (step_cfg hv)⟩
    rw [hturn, step_rr hr hv, turnAfter_no_contest (not_contest_of_busy hb)]

/-- The bound of R226: two frames, and the cycle of one lost contest. -/
def waitBound (c : Config) : Nat := 2 * (49 * c.phaseCycles + 1) + 1

/-- A request that is eligible whenever no frame is in flight waits for the frame in flight, loses at most one contest,
and wins when the winner's frame has ended (R226). -/
theorem grant_of_eligible_when_idle {s : State} {p : Port} (h : Legal s)
    (hno : NoReset s (waitBound s.cfg + 1))
    (heligible : ∀ k u, k ≤ waitBound s.cfg → runCycles k s = .next u → u.busy = false → eligible u p = true) :
    ∃ k u, k ≤ waitBound s.cfg ∧ runCycles k s = .next u ∧ grant u = some p := by
  have hbound : waitBound s.cfg = 2 * (49 * s.cfg.phaseCycles + 1) + 1 := rfl
  have hfirst := frameCyclesLeft_le h
  obtain ⟨u, hu, hidle, hlegal, -, hcfg⟩ := exists_idle (k := 0) h rfl fun i hi => hno i (by omega)
  rw [Nat.zero_add] at hu
  have hr : u.now.rst = false := runCycles_now hu ▸ hno _ (by omega)
  rcases grant_or_lost hr (heligible _ u (by omega) hu hidle) with hg | ⟨hc, hlost⟩
  · exact ⟨_, u, by omega, hu, hg⟩
  · obtain ⟨v, hv⟩ := step_total u
    have hlegal' := step_legal hlegal hv
    have hsecond := frameCyclesLeft_le hlegal'
    rw [step_cfg hv, hcfg] at hsecond
    have hturn : v.rr = p := by
      rw [step_rr hr hv, turnAfter_contest hc, hlost]
      cases p <;> rfl
    obtain ⟨w, hw, hidle', -, hkept, -⟩ := exists_idle hlegal' (runCycles_append hu hv) fun i hi => hno i (by omega)
    have hr' : w.now.rst = false := runCycles_now hw ▸ hno _ (by omega)
    have he := heligible _ w (by omega) hw hidle'
    exact ⟨_, w, by omega, hw, grant_eq_some_iff.2 ⟨hr', he, fun _ => hkept.trans hturn⟩⟩

/-- Settles O55: a held host word is eligible whenever no frame is in flight. -/
theorem hostInitOrTickWaitIsBounded : Obligations.HostInitOrTickWaitIsBounded := by
  intro s w h _ bound hno hheld
  refine grant_of_eligible_when_idle h hno fun k u hk hu hidle => ?_
  have hvalid : u.now.cmdValid = true := runCycles_now hu ▸ (hheld k hk).1
  exact eligibleHost_eq_true_iff.2 ⟨hvalid, fun _ => hidle⟩

/-- Settles O56: with LOCK 0 a held tick-port request is eligible whenever no frame is in flight. -/
theorem tickPortWaitIsBounded : Obligations.TickPortWaitIsBounded := by
  intro s h bound hno hheld hlock
  refine grant_of_eligible_when_idle h hno fun k u hk hu hidle => ?_
  have hreq : u.now.tickReq = true := runCycles_now hu ▸ hheld k hk
  exact eligibleTick_eq_true_iff.2 ⟨hreq, hidle, hlock k u hk hu⟩

end Sys2Proof.Machine
end

section
/-! PROOFS. The host formatter (R251): its decimal digits read back as the number, and suppression blanks exactly the
digits before the first one it keeps. -/

namespace Sys2Proof.Machine

/-! ### The decimal digits -/

@[simp] theorem decimalDigits_length (n m : Nat) : (decimalDigits n m).length = n := by simp [decimalDigits]

/-- A digit is below 10, so its byte holds it. -/
theorem digitByte_toNat (m : Nat) : (BitVec.ofNat 8 (m % 10)).toNat = m % 10 := by
  rw [BitVec.toNat_ofNat]
  omega

/-- The last of n + 1 digits is the ones; those before it are the n digits of a tenth. -/
theorem decimalDigits_succ (n m : Nat) :
    decimalDigits (n + 1) m = decimalDigits n (m / 10) ++ [BitVec.ofNat 8 (m % 10)] := by
  have htenth : ∀ i ∈ List.range n,
      BitVec.ofNat 8 (m / 10 ^ (n - i) % 10) = BitVec.ofNat 8 (m / 10 / 10 ^ (n - 1 - i) % 10) := fun i hi => by
    have hi := List.mem_range.1 hi
    rw [Nat.div_div_eq_div_mul, ← Nat.pow_succ', show (n - 1 - i).succ = n - i by omega]
  simp [decimalDigits, List.range_succ, List.map_congr_left htenth]

theorem decimalDigits_le_nine {n m : Nat} : ∀ x ∈ decimalDigits n m, x.toNat ≤ 9 := by
  intro x hx
  obtain ⟨i, -, rfl⟩ := List.mem_map.1 hx
  rw [digitByte_toNat]
  omega

/-- A number that fits in n digits is read back from them. -/
theorem decimalDigits_readBack {n m : Nat} (h : m < 10 ^ n) :
    (decimalDigits n m).foldl (fun acc x => acc * 10 + x.toNat) 0 = m := by
  induction n generalizing m with
  | zero => exact (Nat.lt_one_iff.1 h).symm
  | succ n ih =>
    have htenth : m / 10 < 10 ^ n := Nat.div_lt_of_lt_mul (Nat.pow_succ' ▸ h)
    rw [decimalDigits_succ, List.foldl_append, ih htenth, List.foldl_cons, List.foldl_nil, digitByte_toNat]
    omega

/-! ### `setInteger` with and without leading zeros -/

theorem setInteger_visible_digits (h : FormatterSetup) (value d : Nat) :
    (setInteger h value d (some true)).digits = decimalDigits h.n (min value (10 ^ h.n - 1)) := rfl

theorem setInteger_suppressed_digits (h : FormatterSetup) (value d : Nat) :
    (setInteger h value d (some false)).digits = suppressZeros h.n h.lzKeepDpDigit (pointPosition h.n d) 0
      (setInteger h value d (some true)).digits := rfl

/-- Settles O59: the clamped value fits in n digits, and the point is no part of them. -/
theorem formatterDigitsReadBack : Obligations.FormatterDigitsReadBack := by
  intro h value d
  have hfits : min value (10 ^ h.n - 1) < 10 ^ h.n := by
    have hpos := Nat.pow_pos (n := h.n) (show 0 < 10 by decide)
    omega
  rw [setInteger_visible_digits]
  exact ⟨decimalDigits_length _ _, decimalDigits_le_nine, decimalDigits_readBack hfits⟩

/-! ### Suppression -/

/-- R251's loop stops at the digit x of position i: it is the rightmost, or not 0, or kept for the point. -/
def StopsAt (n : Nat) (keep : Bool) (dpos : Option Nat) (i : Nat) (x : Byte) : Prop :=
  n ≤ i + 1 ∨ x ≠ 0 ∨ (keep = true ∧ dpos.any (· ≤ i) = true)

/-- The loop's own condition is that it does not stop. -/
theorem not_stopsAt_iff {n : Nat} {keep : Bool} {dpos : Option Nat} {i : Nat} {x : Byte} :
    ¬ StopsAt n keep dpos i x ↔ i + 1 < n ∧ x = 0 ∧ (!(keep && dpos.any (· ≤ i))) = true := by
  cases keep <;> simp [StopsAt]

theorem suppressZeros_of_stopsAt {n : Nat} {keep : Bool} {dpos : Option Nat} {i : Nat} {x : Byte} {rest : List Byte}
    (h : StopsAt n keep dpos i x) : suppressZeros n keep dpos i (x :: rest) = x :: rest :=
  if_neg (mt not_stopsAt_iff.2 (not_not_intro h))

theorem suppressZeros_of_not_stopsAt {n : Nat} {keep : Bool} {dpos : Option Nat} {i : Nat} {x : Byte}
    {rest : List Byte} (h : ¬ StopsAt n keep dpos i x) :
    suppressZeros n keep dpos i (x :: rest) = blankCode :: suppressZeros n keep dpos (i + 1) rest :=
  if_pos (not_stopsAt_iff.1 h)

/-- From position i on, suppression turns BLANK exactly the digits before the first stop. -/
theorem suppressZeros_eq {n : Nat} {keep : Bool} {dpos : Option Nat} {l : List Byte} {i : Nat}
    (hlen : n = i + l.length) (hl : 0 < l.length) :
    ∃ k, k < l.length ∧ StopsAt n keep dpos (i + k) (l.getD k 0) ∧
      (∀ j, j < k → ¬ StopsAt n keep dpos (i + j) (l.getD j 0)) ∧
      suppressZeros n keep dpos i l = List.replicate k blankCode ++ l.drop k := by
  induction l generalizing i with
  | nil => exact absurd hl (Nat.lt_irrefl 0)
  | cons x rest ih =>
    rw [List.length_cons] at hlen
    by_cases hx : StopsAt n keep dpos i x
    · exact ⟨0, hl, hx, fun j hj => absurd hj j.not_lt_zero, suppressZeros_of_stopsAt hx⟩
    · have hnext : i + 1 < n := (not_stopsAt_iff.1 hx).1
      obtain ⟨k, hk, hstop, hbefore, heq⟩ := ih (i := i + 1) (by omega) (by omega)
      have hshift (j : Nat) : i + 1 + j = i + (j + 1) := by omega
      refine ⟨k + 1, Nat.succ_lt_succ hk, hshift k ▸ hstop, fun j hj => ?_, ?_⟩
      · cases j with
        | zero => exact hx
        | succ j => exact hshift j ▸ hbefore j (Nat.lt_of_succ_lt_succ hj)
      · rw [suppressZeros_of_not_stopsAt hx, heq]
        rfl

/-- A position is at or after the point when there is one and it is not further right (D36). -/
theorem pointPosition_any_le {n d i : Nat} :
    (pointPosition n d).any (· ≤ i) = true ↔ 1 ≤ d ∧ d + 1 ≤ n ∧ n - 1 - d ≤ i := by
  unfold pointPosition
  split
  case isTrue hd => simp [hd]
  case isFalse hd => exact iff_of_false Bool.false_ne_true fun ⟨hd1, hdn, _⟩ => hd ⟨hd1, hdn⟩

/-- Within the display the loop's stops are the three of R251. -/
theorem stopsAt_pointPosition_iff {n d i : Nat} {keep : Bool} {x : Byte} (hi : i < n) :
    StopsAt n keep (pointPosition n d) i x ↔
      i = n - 1 ∨ x ≠ 0 ∨ (keep = true ∧ 1 ≤ d ∧ d ≤ n - 1 ∧ n - 1 - d ≤ i) := by
  have hlast : n ≤ i + 1 ↔ i = n - 1 := by omega
  have hd : d + 1 ≤ n ↔ d ≤ n - 1 := by omega
  rw [StopsAt, pointPosition_any_le, hlast, hd]

/-- Settles O60: the loop, started at position 0 on the n digits. -/
theorem formatterBlanksLeadingZeros : Obligations.FormatterBlanksLeadingZeros := by
  intro h value d hn stops
  have hlen : (setInteger h value d (some true)).digits.length = h.n := decimalDigits_length _ _
  obtain ⟨k, hk, hstop, hbefore, heq⟩ := suppressZeros_eq (n := h.n) (keep := h.lzKeepDpDigit)
    (dpos := pointPosition h.n d) (i := 0) (l := (setInteger h value d (some true)).digits) (by omega) (by omega)
  rw [hlen] at hk
  rw [Nat.zero_add] at hstop
  refine ⟨k, hk, (stopsAt_pointPosition_iff hk).1 hstop, fun i hi hs => ?_,
    (setInteger_suppressed_digits h value d).trans heq, rfl⟩
  exact hbefore i hi (by rwa [Nat.zero_add, stopsAt_pointPosition_iff (hi.trans hk)])

end Sys2Proof.Machine
end

section
/-! PROOFS. The exceptions family (60_exceptions.md): no command and no cycle stops the DDC (R300, R302), and the advisory
delay (R308), whose 16 bits hold the quotient under every legal configuration. -/

namespace Sys2Proof

theorem Config.wf_refreshHzMin {c : Config} (h : c.wf = true) : 16 ≤ c.refreshHzMin := by
  obtain ⟨-, -, -, -, -, -, -, -, -, -, -, hhz⟩ := (c.wf_iff).1 h
  exact hhz

namespace Machine

/-- Settles O20: every command has its effect, and every cycle its next state. -/
theorem nothingStopsTheDDC : Obligations.NothingStopsTheDDC :=
  ⟨fun i s => ⟨effect i s, exec_eq i s⟩, step_total⟩

/-! ### The advisory delay -/

@[simp] theorem advDelay_zero (c : Config) : advDelay c 0 = 0 := if_pos rfl

/-- At 16 Hz or more no delay is above 62500 µs, so the 16 bits lose nothing of it. -/
theorem advDelay_toNat {c : Config} {n : BitVec 4} (hhz : 16 ≤ c.refreshHzMin) (hn : 0 < n.toNat) :
    (advDelay c n).toNat = 1000000 / (c.refreshHzMin * n.toNat) := by
  have hn0 : n ≠ 0 := fun h => hn.ne' (congrArg BitVec.toNat h)
  have hrate : 16 ≤ c.refreshHzMin * n.toNat := hhz.trans (Nat.le_mul_of_pos_right _ hn)
  have hle : 1000000 / (c.refreshHzMin * n.toNat) ≤ 62500 := Nat.div_le_div_left hrate (by decide)
  rw [advDelay, if_neg hn0, BitVec.toNat_ofNat, Nat.mod_eq_of_lt (hle.trans_lt (by decide))]

/-- Settles O57: the delay is a floor, so it bounds exactly the periods that keep the refresh rate. -/
theorem advisoryDelay : Obligations.AdvisoryDelay := by
  refine ⟨fun c n hc hn => ?_, advDelay_zero, fun _ => rfl, by decide⟩
  have hhz : 16 ≤ c.refreshHzMin := Config.wf_refreshHzMin hc
  have hpos : 0 < n.toNat := Nat.pos_of_ne_zero fun h => hn (BitVec.eq_of_toNat_eq h)
  have hdelay := advDelay_toNat hhz hpos
  refine ⟨hdelay, fun d => ?_⟩
  rw [hdelay, Nat.le_div_iff_mul_le (Nat.mul_pos (by omega) hpos)]

end Machine

end Sys2Proof
end

section
/-! PROOFS. The reset family (70_reset_and_hazards.md): a cycle with rst = 1 as one equation with the state it leaves
(R340, R341), and the unconfigured DDC, which only an INIT with CNT at least 1 ends (R343). -/

namespace Sys2Proof.Machine

/-! ### The reset cycle -/

theorem step_reset {s : State} (hr : s.now.rst = true) : step s = .next (resetCycle s) := by
  simp [step, cycle, hr]

theorem step_reset_next {s t : State} (hr : s.now.rst = true) (hs : step s = .next t) : t = resetCycle s :=
  Host.Outcome.next.inj (hs.symm.trans (step_reset hr))

/-- Under a legal configuration BLANK is 16, so the buffer too takes the value that the reset state has (R22, R340). -/
theorem resetCycle_eq_reset {s : State} (h : s.cfg.wf = true) :
    resetCycle s = { State.reset with cfg := s.cfg, chain := (resetCycle s).chain, inputs := s.inputs.tail,
                                      draws := (resetCycle s).draws } := by
  refine (resetCycle_eq s).trans ?_
  rw [State.resetCore, State.nextCycle_cfg, Config.wf_codeBlank h]
  rfl

/-- Settles O25: the reset cycle's state is the reset state but for the chain and the draws, and shows its outputs. -/
theorem resetCycleResets : Obligations.ResetCycleResets := by
  intro s hc hr
  have hg : grant s = none := grant_none_of_rst hr
  have ht := resetCycle_eq_reset hc
  refine ⟨hg, by simp [outputs, hg], by simp [outputs, hg], resetCycle s, step_reset hr, ht, ?_⟩
  rw [ht]
  exact ⟨rfl, rfl, rfl, rfl, advDelay_zero s.cfg⟩

/-- No line that a reset takes to 0 rises. -/
theorem crosses_rising_to_low (before : Bool) : crosses .rising before false = false := Bool.and_false _

/-- Settles O26: the lines fall at most, and a chain that waits for a rising edge sees none. -/
theorem midFrameResetKeepsTheDisplay : Obligations.MidFrameResetKeepsTheDisplay := by
  intro s t hr hs
  obtain ⟨hlatched, hstages⟩ := chainChangesOnlyAtItsEdges s t hs
  obtain rfl := step_reset_next hr hs
  have hlines := resetCycle_lines s
  have hclk : (resetCycle s).clk = false := congrArg Lines.clk hlines
  have hstb : (resetCycle s).stb = false := congrArg Lines.stb hlines
  refine ⟨?busy, ?ph, ?idx, hlines, fun hedge => hlatched ?latch, fun hedge hb => hstages (.inr hb) ?shift⟩
  case latch => rw [hedge, hstb, crosses_rising_to_low]
  case shift => rw [hedge, hclk, crosses_rising_to_low]
  all_goals
    rw [resetCycle_eq]
    rfl

/-! ### The unconfigured DDC -/

/-- NDIG = 0, no frame in flight and the lines at 0: the DDC from a reset to its first INIT with CNT at least 1 (R343). -/
def Unconfigured (s : State) : Prop := s.ndig = 0 ∧ s.busy = false ∧ s.lines = ⟨false, false, false⟩

theorem unconfigured_resetCycle (s : State) : Unconfigured (resetCycle s) := by
  rw [resetCycle_eq]
  exact ⟨rfl, rfl, rfl⟩

theorem saturateCount_zero (c : Config) : saturateCount c 0 = 0 := by simp [saturateCount]

/-- A TICK needs NDIG ≥ 1 to start a frame, and an INIT with CNT = 0 writes NDIG = 0 again. -/
theorem CommandWrites.unconfigured {i : Instr} {s t : State} (hw : CommandWrites s i t) (h : Unconfigured s)
    (hi : ∀ polb cnt, i = .init polb cnt → cnt = 0) : Unconfigured t := by
  have ⟨hndig, hbusy, hlines⟩ := h
  cases hw with
  | init polb cnt =>
    obtain rfl : cnt = 0 := hi polb cnt rfl
    exact ⟨saturateCount_zero s.cfg, hbusy, hlines⟩
  | tick hn => exact absurd hndig hn
  | _ => exact h

/-- R343: with no frame in flight a cycle is its command's effect, so it leaves the DDC unconfigured. -/
theorem step_unconfigured {s t : State} (h : Unconfigured s) (hs : step s = .next t)
    (hi : ∀ polb cnt, grantedInstr s = some (.init polb cnt) → cnt = 0) : Unconfigured t := by
  have ⟨_, hbusy, _⟩ := h
  cases hr : s.now.rst with
  | true =>
    obtain rfl := step_reset_next hr hs
    exact unconfigured_resetCycle s
  | false =>
    obtain rfl := Host.Outcome.next.inj (hs.symm.trans (step_idle hr hbusy))
    exact (effect_writes _ _).unconfigured h fun polb cnt he =>
      hi polb cnt (grantedInstr_eq_of_executed he Instr.noConfusion)

/-- Settles O27: no position is below NDIG = 0, and every cycle keeps it there until a granted INIT says otherwise. -/
theorem unconfiguredUntilInit : Obligations.UnconfiguredUntilInit := by
  refine ⟨fun s t hr hs => ?reset, fun s pos val on h => ?commands, fun s t h hs hi => step_unconfigured h hs hi⟩
  case reset =>
    obtain rfl := step_reset_next hr hs
    refine ⟨unconfigured_resetCycle s, ?_⟩
    rw [resetCycle_eq]
    exact ⟨rfl, rfl, rfl, rfl⟩
  case commands =>
    obtain ⟨hn, -, -⟩ := h
    have hpos : s.ndig.toNat ≤ pos.toNat := by simp [hn]
    rw [exec_eq, exec_eq, exec_eq, effect_setDigit_of_invalid val hpos, effect_setDp_of_invalid on hpos,
      effect_tick_unconfigured hn]
    exact ⟨rfl, rfl, rfl⟩

/-! ### The display's wiring -/

/-- Settles O39: at the shown position a level lights a segment on exactly one of the two wirings. -/
theorem wrongPolarityInverts : Obligations.WrongPolarityInverts := by
  intro c ch wiring q seg
  rw [Chain.lit, Chain.lit, Bool.bne_not]
  cases ch.enabled q with
  | false => rfl
  | true => rfl

/-! ### The cadence -/

/-- At the minimum pulse width a frame and its grant take 49 pulses of 1 µs and two cycles, none longer than a pulse
(R144, R352). -/
theorem frameTime_le_of_minimumPulse {c : Config} (h : c.wf = true)
    (hmin : c.phaseCycles * c.tClkPs = c.tPulseMinPs) : (49 * c.phaseCycles + 2) * c.tClkPs ≤ 51000000 := by
  obtain ⟨-, -, -, -, hpulse, -⟩ := c.wf_iff.1 h
  have hclk : c.tClkPs ≤ c.phaseCycles * c.tClkPs := Nat.le_mul_of_pos_left _ (Config.wf_phaseCycles h)
  calc (49 * c.phaseCycles + 2) * c.tClkPs
      = 49 * (c.phaseCycles * c.tClkPs) + 2 * c.tClkPs := by ring
    _ ≤ 51000000 := by omega

/-- Settles O58: at most 51 µs a frame against the 2500 µs of 50 Hz on eight digits. -/
theorem refreshReachableAtMinimumPulse : Obligations.RefreshReachableAtMinimumPulse := by
  intro c n hc hmin hhz hn
  have hframe := frameTime_le_of_minimumPulse hc hmin
  have hrate : c.refreshHzMin * n.toNat ≤ 400 := by rw [hhz]; omega
  calc (49 * c.phaseCycles + 2) * c.tClkPs * (c.refreshHzMin * n.toNat)
      ≤ 51000000 * 400 := Nat.mul_le_mul hframe hrate
    _ < 1000000000000 := by decide

end Sys2Proof.Machine
end
